-- ==== Sys2Proof/Word.lean ====
section
/-! DEFINITION. The word of every packet and record of the part (section 11: packets are sequences of
16-bit words), and the mask that names a set of drops. -/

namespace Sys2Proof

/-- A packet or record word, 16 bits, bit 15 the most significant (section 11). -/
abbrev Word := BitVec 16

/-- The number of a drop, 0 to 7. -/
abbrev DropId := Fin 8

/-- A set of drops, bit 0 for drop 0, as the ROUTE record lays its copy mask out (section 11.3). -/
abbrev DropMask := BitVec 8

/-- Eight user-bits digits, digit 1 first, each 0 to 15 (R67). -/
abbrev Digits := Vector (BitVec 4) 8

/-- A count of the epoch divider, 0 to 511 (R1). -/
abbrev DividerCount := Fin 512

end Sys2Proof
end

