-- ==== Sys2Proof/Syntax.lean ====
section
/-! DEFINITION. The commands of the part: one constructor for each row of spec/opcode_table.json, in the
table's order. The table gives the rows no operand bits; an operand here is what the rule of the row says
the event brings from outside the part (the words of a packet, the drop or side it happens on, the count
of the epoch divider at its instant, the strap levels). Everything else the row uses stands in the state. -/

namespace Sys2Proof

/-- The two trunk ports: side A faces the head, side B the tail. -/
inductive Side where
  | a
  | b
  deriving DecidableEq, Repr

/-- The level changes on a drop's lines that count as activity (R95): on DR, a change that is the start bit
of a packet (R82, R85) or any other change; on DK, which counts under DEVICE clocking, a rising edge (which
is a bit period, R84) or a falling edge. -/
inductive LineChange where
  | drStartBit
  | drLevel
  | dkRise
  | dkFall
  deriving DecidableEq, Repr

/-- The commands. -/
inductive Instr where
  /-- POWER_ON (R193). -/
  | powerOn
  /-- POWER_ON_RESET_END (R193); `stn` is the level of STN5 to STN0 at that moment (R161). -/
  | powerOnResetEnd (stn : BitVec 6)
  /-- EPOCH (R1). -/
  | epoch
  /-- HOUSE_BOUNDARY_EVENT (R5). -/
  | houseBoundaryEvent
  /-- MISSING_TIME_EXPIRY (R30). -/
  | missingTimeExpiry
  /-- DROP_BOUNDARY_EVENT of drop `d` (R54). -/
  | dropBoundaryEvent (d : DropId)
  /-- PULSE_END on drop `d`'s DF line (R65). -/
  | pulseEnd (d : DropId)
  /-- TRUNK_PACKET_COMPLETE (R147); `words` are the packet's words as received, check word last. -/
  | trunkPacketComplete (side : Side) (words : List Word)
  /-- TRUNK_LOST_SIGNAL (R146). -/
  | trunkLostSignal (side : Side)
  /-- TRUNK_RESYNC_END (R146). -/
  | trunkResyncEnd (side : Side)
  /-- SIDE_A_TRANSMIT_START (R156). -/
  | sideATransmitStart
  /-- SIDE_A_TRANSMIT_COMPLETE (R136). -/
  | sideATransmitComplete
  /-- SIDE_B_TRANSMIT_START (R157); `k` is the epoch divider count at that instant (R3). -/
  | sideBTransmitStart (k : DividerCount)
  /-- SIDE_B_TRANSMIT_COMPLETE (R157). -/
  | sideBTransmitComplete
  /-- HELD_REPLY_ENTRY (R166). -/
  | heldReplyEntry
  /-- TRIM_REPLY_ENTRY (R154), on the side whose reply queue has room. -/
  | trimReplyEntry (side : Side)
  /-- DROP_HEADER_MALFORMED (R85); the two header words shifted in on drop `d`. -/
  | dropHeaderMalformed (d : DropId) (kind len : Word)
  /-- DROP_RESYNC_END (R85). -/
  | dropResyncEnd (d : DropId)
  /-- DROP_RECEIVE_STALL (R87). -/
  | dropReceiveStall (d : DropId)
  /-- STAMP_PACKET_COMPLETE (R86); `words` are the packet's words as received, check word last. -/
  | stampPacketComplete (d : DropId) (words : List Word)
  /-- DROP_ACTIVITY (R95). -/
  | dropActivity (d : DropId) (change : LineChange)
  /-- LINE_ARBITER_START (R93). -/
  | lineArbiterStart (d : DropId)
  /-- DROP_TRANSMIT_COMPLETE (R93). -/
  | dropTransmitComplete (d : DropId)
  /-- DROP_TRANSMIT_STALL (R94). -/
  | dropTransmitStall (d : DropId)
  /-- INTAKE_TAKE (R107). -/
  | intakeTake
  /-- INTAKE_COMPLETE (R109). -/
  | intakeComplete
  /-- ITEM_STALE (R129). -/
  | itemStale
  /-- REPORT_EMISSION (R183). -/
  | reportEmission
  /-- HOLDOFF_EXPIRY (R184). -/
  | holdoffExpiry
  /-- TRIM_WRITE_COMPLETE (R15). -/
  | trimWriteComplete
  /-- LOAD_PART (R22): the management unit takes the request at the head of its queue (R166), as in every
  row down to STORE_TRIM; the request's operands stand in the queue. -/
  | loadPart
  /-- LOAD_PROFILE (R58). -/
  | loadProfile
  /-- LOAD_REGION (R127). -/
  | loadRegion
  /-- LOAD_ROUTE (R158). -/
  | loadRoute
  /-- LOAD_USER_BITS (R76). -/
  | loadUserBits
  /-- READ_PART (R172). -/
  | readPart
  /-- READ_PROFILE (R58). -/
  | readProfile
  /-- READ_REGION (R127). -/
  | readRegion
  /-- READ_ROUTE (R158). -/
  | readRoute
  /-- READ_USER_BITS (R76). -/
  | readUserBits
  /-- READ_TRACKER_STATUS (R44). -/
  | readTrackerStatus
  /-- READ_DROP_STATUS (R190). -/
  | readDropStatus
  /-- READ_STORE_STATUS (R145). -/
  | readStoreStatus
  /-- READ_TRUNK_STATUS (R163). -/
  | readTrunkStatus
  /-- READ_IDENT (R173). -/
  | readIdent
  /-- UNKNOWN_REQUEST (R167). -/
  | unknownRequest
  /-- REOPEN (R185). -/
  | reopen
  /-- TRUNK_RESET (R176). -/
  | trunkReset
  /-- DROP_RESET (R177). -/
  | dropReset
  /-- ANCHOR (R61). -/
  | anchor
  /-- FORCE_JAM (R38). -/
  | forceJam
  /-- HOLD (R40). -/
  | hold
  /-- RESUME (R41). -/
  | resume
  /-- STORE_TRIM (R15). -/
  | storeTrim
  /-- TRUNK_START_BIT (R146); `k` is the epoch divider count at that instant (R3). -/
  | trunkStartBit (side : Side) (k : DividerCount)
  /-- WORD_CLOCK_EDGE (R66); `k` is the epoch divider count at that instant (R3). -/
  | wordClockEdge (d : DropId) (k : DividerCount)
  deriving DecidableEq, Repr

end Sys2Proof
end

