-- ==== Sys2Proof/Decode.lean ====
section
/-! DEFINITION. The command a word spells. No row of the opcode table has bits: the part decodes no instruction
words, and its commands are events and requests. -/

namespace Sys2Proof

/-- The command that `nbits` bits `w` spell by the opcode table: none, as the table gives no row any bits. The words the
part does read, packets and records, are read in Machine/Packets.lean, Machine/Records.lean and
Machine/Management.lean. -/
def decodeTableWord (_nbits _w : Nat) : Option Instr := none

end Sys2Proof
end

