-- ==== Sys2Proof/Machine/Formats.lean ====
section
/-! DEFINITION. Bit fields of words, numbers over several words, the check (R191), and the frames of trunk
and drop packets (sections 11.1 and 11.5), with the header judgement of R189. -/

namespace Sys2Proof.Machine

/-- The field of `len` bits whose lowest bit is bit `lo` of a word. -/
def bitsOf (w : Word) (lo len : Nat) : Nat := w.toNat / 2 ^ lo % 2 ^ len

/-- Bit `i` of a word. -/
def bitOf (w : Word) (i : Nat) : Bool := bitsOf w i 1 == 1

/-- A field of `len` bits placed with its lowest bit at bit `lo`. -/
def place (v lo len : Nat) : Nat := v % 2 ^ len * 2 ^ lo

/-- A flag placed at bit `i`. -/
def flagAt (b : Bool) (i : Nat) : Nat := if b then 2 ^ i else 0

/-- The word that holds fields placed with `place` and `flagAt`. -/
def wordOf (n : Nat) : Word := BitVec.ofNat 16 n

/-- A flag as a whole word of a status record: 1 when set (R190). -/
def flagWord (b : Bool) : Word := if b then 1#16 else 0#16

/-- Word `i` of a packet or record; a word past the end reads 0 (R192 for stamps). -/
def wordAt (ws : List Word) (i : Nat) : Word := ws.getD i 0#16

/-- A number in `k` consecutive words, most significant word first (section 11). -/
def natToWords : Nat → Nat → List Word
  | 0, _ => []
  | k + 1, n => BitVec.ofNat 16 (n / 65536 ^ k) :: natToWords k n

/-- The number that consecutive words hold, most significant word first. -/
def natOfWords (ws : List Word) : Nat := ws.foldl (fun acc w => acc * 65536 + w.toNat) 0

/-- A signed number in `k` words, two's complement (section 11). -/
def intToWords (k : Nat) (i : Int) : List Word := natToWords k (i % (65536 ^ k : Nat)).toNat

/-- The signed number that consecutive words hold, two's complement. -/
def intOfWords (ws : List Word) : Int :=
  let n : Int := natOfWords ws
  let span : Int := (65536 ^ ws.length : Nat)
  if 2 * n < span then n else n - span

/-- `n` words of a packet from word `i` on, 0 past the end. -/
def wordsFrom (ws : List Word) (i n : Nat) : List Word := (List.range n).map (fun j => wordAt ws (i + j))

/-- Eight digits from two words, digit 1 in bits 15–12 of the first (section 11.3). -/
def digitsOfWords (w0 w1 : Word) : Digits :=
  #v[BitVec.ofNat 4 (bitsOf w0 12 4), BitVec.ofNat 4 (bitsOf w0 8 4), BitVec.ofNat 4 (bitsOf w0 4 4),
    BitVec.ofNat 4 (bitsOf w0 0 4), BitVec.ofNat 4 (bitsOf w1 12 4), BitVec.ofNat 4 (bitsOf w1 8 4),
    BitVec.ofNat 4 (bitsOf w1 4 4), BitVec.ofNat 4 (bitsOf w1 0 4)]

/-- The two words that carry eight digits. -/
def digitWords (v : Digits) : List Word :=
  [wordOf (place v[0].toNat 12 4 + place v[1].toNat 8 4 + place v[2].toNat 4 4 + place v[3].toNat 0 4),
    wordOf (place v[4].toNat 12 4 + place v[5].toNat 8 4 + place v[6].toNat 4 4 + place v[7].toNat 0 4)]

/-! ## Words on a serial line (R82, R146) -/

/-- The 16 bits of a word in the order they are sent: most significant bit first. -/
def wordBits (w : Word) : List Bool := (List.range 16).map (fun i => w.getMsbD i)

/-- The word that 16 bits spell, the first of them the most significant. -/
def wordOfBits (bs : List Bool) : Word := bs.foldl (fun w b => (w <<< 1) ||| (BitVec.ofBool b).zeroExtend 16) 0#16

/-- A packet on DX or DR, bit period by bit period (R82): a start bit, which is low, and the bits of its words. -/
def lineBits (words : List Word) : List Bool := false :: words.flatMap wordBits

/-- The words of a run of bits, 16 bits to a word; none for a run that ends inside a word. -/
def wordsOfBits : Nat → List Bool → Option (List Word)
  | _, [] => some []
  | 0, _ :: _ => none
  | n + 1, bs => if bs.length < 16 then none else (wordsOfBits n (bs.drop 16)).map (fun ws => wordOfBits (bs.take 16) :: ws)

/-- The words of a packet as its bits come in on a line (R82): none without a low start bit. -/
def wordsOfLine (bs : List Bool) : Option (List Word) :=
  match bs with
  | false :: rest => wordsOfBits (rest.length / 16) rest
  | _ => none

/-- What a trunk sender puts on its pair in one bit period of a packet (R146): the start bit, or a bit of a word. The manual
gives neither the line code nor the shape of the start bit. -/
inductive TrunkBit where
  | start
  | data (b : Bool)
  deriving DecidableEq, Repr

/-- A packet on a trunk pair, bit period by bit period (R146): the start bit, and the bits of its words. -/
def trunkBits (words : List Word) : List TrunkBit := .start :: (words.flatMap wordBits).map .data

/-- The bits that a run of bit periods carries; none where a start bit stands among them. -/
def dataBits : List TrunkBit → Option (List Bool)
  | [] => some []
  | .data b :: rest => (dataBits rest).map (fun bs => b :: bs)
  | .start :: _ => none

/-- The words of a packet as a trunk receiver takes them in (R146): none without a start bit first. -/
def wordsOfTrunk (bs : List TrunkBit) : Option (List Word) :=
  match bs with
  | .start :: rest =>
    match dataBits rest with
    | some bits => wordsOfBits (bits.length / 16) bits
    | none => none
  | _ => none

/-! ## The check (R191) -/

/-- One bit of the division by x^16 + x^12 + x^5 + 1. -/
def checkShift (c : Word) : Word := if c.msb then (c <<< 1) ^^^ 0x1021#16 else c <<< 1

/-- `n` bits of the division. -/
def checkShifts : Nat → Word → Word
  | 0, c => c
  | n + 1, c => checkShifts n (checkShift c)

/-- The remainder after one more message word. -/
def checkWord (c w : Word) : Word := checkShifts 16 (c ^^^ w)

/-- The check over header and payload words in transmission order (R191). -/
def checkOf (ws : List Word) : Word := ws.foldl checkWord 0xFFFF#16

/-- The words of a packet before its check word. -/
def body (ws : List Word) : List Word := ws.dropLast

/-- The check received is the check computed over header and payload (R86, R147). -/
def checkCorrect (ws : List Word) : Bool := ws.getLast? == some (checkOf (body ws))

/-! ## Trunk packets (section 11.1) -/

/-- The seven kinds of trunk packet (R189). -/
inductive TrunkKind where
  | time
  | stamp
  | sync
  | mgmt
  | reply
  | report
  | general
  deriving DecidableEq, Repr

/-- The kind of a kind code; codes 0 and 8 to 15 are none of the seven (R189). -/
def trunkKindOf : Nat → Option TrunkKind
  | 1 => some .time
  | 2 => some .stamp
  | 3 => some .sync
  | 4 => some .mgmt
  | 5 => some .reply
  | 6 => some .report
  | 7 => some .general
  | _ => none

def trunkKindCode : TrunkKind → Nat
  | .time => 1
  | .stamp => 2
  | .sync => 3
  | .mgmt => 4
  | .reply => 5
  | .report => 6
  | .general => 7

def trunkDest (ws : List Word) : Nat := bitsOf (wordAt ws 0) 10 6
def trunkSource (ws : List Word) : Nat := bitsOf (wordAt ws 0) 4 6
def trunkKind (ws : List Word) : Option TrunkKind := trunkKindOf (bitsOf (wordAt ws 0) 0 4)
def trunkLength (ws : List Word) : Nat := bitsOf (wordAt ws 1) 8 8
def trunkHop (ws : List Word) : Nat := bitsOf (wordAt ws 1) 4 4
def trunkTag (ws : List Word) : Nat := bitsOf (wordAt ws 2) 8 8
def trunkPayload (ws : List Word) : List Word := wordsFrom ws 3 (trunkLength ws)

/-- The receiver has counted in the payload words the second header word announces, and the check word (R146). -/
def trunkComplete (ws : List Word) : Bool := ws.length == 4 + trunkLength ws

/-- A trunk packet the part composes: flags and unused bits 0, the check computed (R189, R191). -/
def trunkPacket (dest src : Nat) (kind : TrunkKind) (hop tag : Nat) (payload : List Word) : List Word :=
  let front :=
    wordOf (place dest 10 6 + place src 4 6 + place (trunkKindCode kind) 0 4)
      :: wordOf (place payload.length 8 8 + place hop 4 4)
      :: wordOf (place tag 8 8)
      :: payload
  front ++ [checkOf front]

/-- A STAMP's length is the one its item kind and take-number-present bit give (R189, section 11.2). -/
def stampLengthOk (payload : List Word) : Bool :=
  let kind := bitsOf (wordAt payload 2) 12 4
  let take := if bitOf (wordAt payload 3) 8 then 1 else 0
  let extra := if kind == 4 || kind == 5 then 1 else 0
  1 ≤ kind && kind ≤ 5 && payload.length == 11 + take + extra

/-- A SYNC's length is 8 + 9 × its participant count, the count 1 to 8 (R189). -/
def syncLengthOk (payload : List Word) : Bool :=
  let count := bitsOf (wordAt payload 7) 0 4
  1 ≤ count && count ≤ 8 && payload.length == 8 + 9 * count

/-- The header makes sense: a kind of the seven and a payload length its kind allows (R147, R189). -/
def trunkHeaderOk (ws : List Word) : Bool :=
  let n := trunkLength ws
  match trunkKind ws with
  | some .time => n == 5
  | some .stamp => stampLengthOk (trunkPayload ws)
  | some .sync => syncLengthOk (trunkPayload ws)
  | some .mgmt => 2 ≤ n && n ≤ 11
  | some .reply => 2 ≤ n
  | some .report => n == 7
  | some .general => true
  | none => false

/-! ## Drop packets (section 11.5) -/

/-- Kind codes of a drop header: FRAME, STAMP, COPY. -/
def frameCode : Nat := 1
def stampCode : Nat := 2
def copyCode : Nat := 3

/-- The header a drop receiver accepts: kind STAMP, payload length 4, 5 or 6 (R85, section 11.5). -/
def dropHeaderOk (kind len : Word) : Bool :=
  kind.toNat == stampCode && (len.toNat == 4 || len.toNat == 5 || len.toNat == 6)

/-- All the words of a STAMP packet are in: an accepted header, the payload it announces and the check word (R85). -/
def dropComplete (ws : List Word) : Bool :=
  dropHeaderOk (wordAt ws 0) (wordAt ws 1) && ws.length == 3 + (wordAt ws 1).toNat

/-- A drop packet the part composes (R191, section 11.5). -/
def dropPacket (kind : Nat) (payload : List Word) : List Word :=
  let front := wordOf kind :: wordOf payload.length :: payload
  front ++ [checkOf front]

end Sys2Proof.Machine
end

