-- ==== Sys2Proof/Config.lean ====
section
/-! DEFINITION. What is fixed for the part (numbers the manual states), and the free values: the few
values the manual leaves open, as constants with no body, so that nothing can be proved of them. -/

namespace Sys2Proof.Config

/-- 2^24, the number of fractional ticks in a house tick (Units of time; R1). -/
def ticksUnit : Int := 16777216

/-- The nominal epoch increment 4,000 × 2^24, in fractional ticks (R1). -/
def nominalIncrement : Int := 67108864000

/-- C_track: the bound of A, and of c outside SLEW (R24, R25). -/
def cTrack : Int := 6710886

/-- The bound of q in the loop update (R24). -/
def qLimit : Int := 2147483647

/-- The bound of the error e, 2^40 ticks (R18). -/
def errorLimit : Int := 1099511627776

/-- The end of the house time count: house time is unsigned, 64 bits (R1). -/
def houseTimeEnd : Nat := 18446744073709551616

/-- The last value of the missing-TIME timer, at which it saturates (R20). -/
def missingTimeMax : Nat := 1048575

/-- The epochs without a bit, or without a clock edge, that make a stall (R87, R94). -/
def stallEpochs : Nat := 48

/-- Places in a copy queue (R92), in a reply queue (R154) and in the management queue (R165). -/
def queuePlaces : Nat := 4

/-- Packets the up FIFO and the down FIFO hold (R152). -/
def fifoPlaces : Nat := 8

/-- Serials wrap after 32 bits (R129), and so do the region counters (R144). -/
def serialEnd : Nat := 4294967296

/-- The age at which a held item goes stale (R129). -/
def staleAge : Nat := 2147483648

/-- The part code reported in IDENT (R173). -/
def partCode : Nat := 2408

/-- The stage controller's station, the destination of replies, reports and items (R154, R155, R156). -/
def controllerStation : Nat := 63

/-- FREE VALUE (notes/assumptions/3.md): what house time reads when an advance, a jam or an arrival phase
would take it past the end of its 64 bits. The argument is the exact sum. The manual gives the width
(R1) and no behaviour at its end. -/
opaque houseTimePastEnd : Nat → BitVec 64

/-- FREE VALUE (notes/assumptions/4.md): the word that stands for 'none' in the pending house rate field of a
TRACKER STATUS record (R44, R190); the manual gives codes 1 to 13 and no code for none. -/
opaque noPendingRateWord : Word

/-- FREE VALUE (notes/assumptions/14.md): the epoch divider count at the instant of a trunk reset, for the level that a
line under WORD has when the reset applies HOLD to it (R62, R64, R66). The argument is house time. -/
opaque resetInstant : Nat → DividerCount

end Sys2Proof.Config
end

