-- ==== Sys2Proof/Machine/State.lean ====
section
/-! DEFINITION. The state of the part, as plain data: every piece of state the manual gives it, block by
block, with its power-on value, and the queue of waiting commands. -/

namespace Sys2Proof.Machine

/-! ## House clock, house cadence and trim cell (section 1) -/

/-- The thirteen frame rates of the rate table (R4, R47), by their codes 1 to 13. -/
inductive Rate where
  | fps24000over1001
  | fps24
  | fps25
  | fps30000over1001
  | fps30
  | fps48000over1001
  | fps48
  | fps50
  | fps60000over1001
  | fps60
  | fps100
  | fps120000over1001
  | fps120
  deriving DecidableEq, Repr

/-- The house clock (R1, R8, R10). -/
structure Clock where
  /-- House time H (R1). -/
  time : Nat
  /-- The fraction F, in 2^-24 ticks (R1). -/
  fraction : Nat
  /-- The correction in use, c (R1). -/
  correction : Int
  /-- The epoch divider count as it stood at the last command that names or resets it (R1, R3). -/
  divider : DividerCount
  /-- The step count (R10). -/
  stepCount : Nat
  /-- The received hop (R8). -/
  receivedHop : Nat
  /-- Any valid TIME arrival since power-on (R8). -/
  anyArrival : Bool
  deriving DecidableEq, Repr

/-- The house cadence (R4). -/
structure HouseCadence where
  /-- The house rate code in use. -/
  rate : Rate
  /-- The pending house rate code, or none. -/
  pendingRate : Option Rate
  /-- The next house boundary B_h. -/
  boundary : Nat
  deriving DecidableEq, Repr

/-- Where a reply goes and what of its request it repeats (R154, R168): the side the request arrived on, its
tag, and its first two payload words. -/
structure ReplyTo where
  side : Side
  tag : Nat
  request : Word
  argument : Word
  deriving DecidableEq, Repr

/-- A trim write in flight (R15): the captured value, and the reply owed at completion, none for a broadcast. -/
structure TrimWrite where
  captured : Int
  replyTo : Option ReplyTo
  deriving DecidableEq, Repr

/-- The trim cell (R13). The write-in-flight flag is set exactly while `write` holds a write. -/
structure TrimCell where
  value : Int
  write : Option TrimWrite
  deriving DecidableEq, Repr

/-! ## Reference tracker and PART record (section 2, R172) -/

inductive TrackerState where
  | acquire
  | track
  | locked
  | slew
  | freewheel
  deriving DecidableEq, Repr

/-- Quality grades, best first (R9). -/
inductive Quality where
  | locked
  | tracking
  | freewheel
  | unreferenced
  deriving DecidableEq, Repr

/-- The reference tracker (section 2). -/
structure Tracker where
  state : TrackerState
  /-- The drift integrator A (R24, R25). -/
  drift : Int
  /-- The last error e (R18). -/
  lastError : Int
  /-- The last interval (R21). -/
  lastInterval : Nat
  lockCount : Nat
  outlierCount : Nat
  /-- The missing-TIME timer (R20). -/
  missingTime : Nat
  /-- THE MODEL'S OWN: the timer expired at the last epoch and MISSING_TIME_EXPIRY has not yet been taken
  (R20: the expiry is judged at an epoch; the table makes acting on it a step of its own). -/
  expiryDue : Bool
  firstArrival : Bool
  forceJam : Bool
  hold : Bool
  heldFromAcquire : Bool
  guardFlag : Bool
  upstream : Quality
  deriving DecidableEq, Repr

inductive JamPolicy where
  | guarded
  | always
  deriving DecidableEq, Repr

/-- The PART record (R22, R172). L_slew is a function of the slew limit (R23). -/
structure PartRecord where
  propShift : Nat
  intShift : Nat
  lockWindow : Nat
  stepThreshold : Nat
  nLock : Nat
  nOut : Nat
  lMiss : Nat
  slewPpm : Nat
  jamPolicy : JamPolicy
  trunkDelay : Nat
  /-- Cause enables, bit 11 for cause 1 down to bit 0 for cause 12 (section 11.3). -/
  causeEnables : BitVec 12
  timingEnable : Bool
  trafficEnable : Bool
  holdoff : Nat
  deriving DecidableEq, Repr

/-! ## Profiles, cadence units and DF lines (section 3) -/

inductive Role where
  | camera
  | recorder
  | slate
  | edit
  | monitor
  deriving DecidableEq, Repr

inductive Pull where
  | none
  | down
  | up
  deriving DecidableEq, Repr

inductive Audio where
  | none
  | khz48
  | khz96
  | khz192
  deriving DecidableEq, Repr

inductive DfFunction where
  | pulse
  | word
  | hold
  | low
  | high
  deriving DecidableEq, Repr

inductive UserBitsSource where
  | fixed
  | take
  | table
  deriving DecidableEq, Repr

inductive LineFunction where
  | none
  | packet
  deriving DecidableEq, Repr

inductive Clocking where
  | part
  | device
  deriving DecidableEq, Repr

inductive LineRate where
  | mbit1
  | mbit2
  | mbit4
  | mbit8
  deriving DecidableEq, Repr

/-- A drop's profile (R45). -/
structure Profile where
  enabled : Bool
  role : Role
  clapCapable : Bool
  rate : Rate
  dropFrame : Bool
  pull : Pull
  offset : Int
  audio : Audio
  dfFunction : DfFunction
  pulseWidth : Nat
  userBitsSource : UserBitsSource
  fixedBits : Digits
  frameFeed : Bool
  lineFunction : LineFunction
  clocking : Clocking
  lineRate : LineRate
  quietLimit : Nat
  stampWindow : Nat
  deriving DecidableEq, Repr

/-- A drop cadence unit (R52). -/
structure Cadence where
  /-- The anchor O. A backward jam can shift it below 0 (R56 states no limit). -/
  anchor : Int
  /-- The target: the drop time at which the next frame begins. -/
  target : Nat
  /-- The next boundary B. -/
  boundary : Nat
  lastFrame : Nat
  pendingProfile : Option Profile
  pendingAnchor : Bool
  stepped : Bool
  deriving DecidableEq, Repr

/-- The DF line (R64 to R66). -/
structure DfLine where
  /-- The level the line is driven at. A line that follows its drop's word clock has the word clock's level at each
  instant (`State.dfLevel`); this field then keeps the level of its last WORD_CLOCK_EDGE. -/
  level : Bool
  /-- The pulse end while a pulse is in progress (R65). -/
  pulseEnd : Option Nat
  /-- The level the line had at the moment HOLD applied (R64). -/
  held : Bool
  /-- A drop reset has sent the line low, and it follows its function again from the drop's next boundary
  event (R64). -/
  waitsForBoundary : Bool
  deriving DecidableEq, Repr

/-! ## Drop lines (section 5) -/

inductive DropState where
  | disabled
  | active
  | dormant
  deriving DecidableEq, Repr

/-- The condition of a trunk receiver (R146) or of a drop's shift register (R85). `receiving` is a shift
register that holds part of a packet. -/
inductive Receiver where
  | hunting
  | receiving
  | resynchronising
  deriving DecidableEq, Repr

/-- A received packet with its arrival record (R88). -/
structure Received where
  words : List Word
  time : Nat
  stepCount : Nat
  deriving DecidableEq, Repr

/-- A FRAME as composed (R79). -/
structure Frame where
  number : Nat
  hours : Nat
  minutes : Nat
  seconds : Nat
  frames : Nat
  dropFrame : Bool
  userBits : Digits
  /-- The sample stamp, absent without audio. -/
  sample : Option Nat
  quality : Quality
  stepCount : Nat
  scene : Nat
  stepped : Bool
  skipped : Bool
  deriving DecidableEq, Repr

/-- A transmission in progress on DX (R93): a FRAME, or the copy of the item with a serial. -/
inductive DropTransmission where
  | frame (words : List Word)
  | copy (serial : Nat) (words : List Word)
  deriving DecidableEq, Repr

/-- The counters of a drop (R103), with the role-refusal (R106) and unassigned-discard (R130) counters kept
with them. -/
structure DropCounters where
  received : Nat
  checkFailures : Nat
  malformed : Nat
  overruns : Nat
  waits : Nat
  framesSent : Nat
  skips : Nat
  copiesSent : Nat
  transmitAborts : Nat
  dormancies : Nat
  wakes : Nat
  flushed : Nat
  roleRefusals : Nat
  unassignedDiscards : Nat
  deriving DecidableEq, Repr

/-- A drop line controller (section 5). -/
structure Line where
  state : DropState
  shift : Receiver
  /-- Epochs without a bit while the shift register is part full (R87). -/
  receiveStall : Nat
  holding : Option Received
  slot : Option Frame
  /-- Serials of the items in the copy queue, head first (R92). -/
  copyQueue : List Nat
  transmission : Option DropTransmission
  /-- Epochs without a clock edge during a transmission under DEVICE clocking (R94). -/
  transmitStall : Nat
  wait : Bool
  quietTimer : Nat
  activity : Bool
  counters : DropCounters
  deriving DecidableEq, Repr

/-! ## Takes (section 6) -/

inductive TakeState where
  | idle
  | rolling
  deriving DecidableEq, Repr

inductive CloseReason where
  | none
  | cut
  | superseded
  | lost
  | reset
  | reprofile
  deriving DecidableEq, Repr

/-- A take record and the drop's take counter (R114). -/
structure Take where
  state : TakeState
  number : Nat
  rollTime : Nat
  rollSerial : Nat
  clapCount : Nat
  rebased : Bool
  lastClose : CloseReason
  counter : Nat
  deriving DecidableEq, Repr

/-- Everything the part holds for one drop. -/
structure Drop where
  profile : Profile
  cadence : Cadence
  df : DfLine
  line : Line
  take : Take
  deriving DecidableEq, Repr

/-- A packet in process at the intake, with its source drop (R107). -/
structure InProcess where
  source : DropId
  packet : Received
  deriving DecidableEq, Repr

/-- The stamp intake (R107). -/
structure Intake where
  lastServed : DropId
  inProcess : Option InProcess
  deriving DecidableEq, Repr

/-! ## Label unit (section 4) -/

/-- The label unit (R67). -/
structure LabelUnit where
  sceneIndex : Nat
  userBits : Vector Digits 64
  deriving DecidableEq, Repr

/-! ## Items and the stamp store (sections 6.4, 6.6 and 7) -/

/-- What an item reports: a MARK carries its code and a META its scene index (R104, R113). -/
inductive StampKind where
  | roll
  | cut
  | clap
  | mark (code : Nat)
  | metaScene (scene : Nat)
  deriving DecidableEq, Repr

/-- The flags of a STAMP item (R113, R118). -/
structure StampFlags where
  unverified : Bool
  preStep : Bool
  synthetic : Bool
  labelClamped : Bool
  orphanCut : Bool
  orphan : Bool
  rebased : Bool
  deriving DecidableEq, Repr

/-- A STAMP item but for its serial (R113). -/
structure StampItem where
  kind : StampKind
  sourceDrop : Nat
  time : Nat
  frame : Nat
  subframe : Nat
  flags : StampFlags
  takeNumber : Option Nat
  deriving DecidableEq, Repr

/-- A participant of a sync point (R122). -/
structure Participant where
  drop : Nat
  takeNumber : Nat
  frame : Nat
  subframe : Nat
  samplePresent : Bool
  sample : Nat
  deriving DecidableEq, Repr

/-- A SYNC item but for its serial (R122). -/
structure SyncItem where
  number : Nat
  time : Nat
  sourceDrop : Nat
  unverified : Bool
  preStep : Bool
  participants : List Participant
  deriving DecidableEq, Repr

inductive ItemBody where
  | stamp (item : StampItem)
  | sync (item : SyncItem)
  deriving DecidableEq, Repr

/-- A held item: its serial, its contents, and its delivery set, UP and drops (R126, R131). -/
structure Held where
  serial : Nat
  item : ItemBody
  up : Bool
  drops : DropMask
  deriving DecidableEq, Repr

inductive FullPolicy where
  | refuse
  | replaceOldest
  deriving DecidableEq, Repr

/-- A region table entry (R126), its held items oldest first, and its counters (R144). -/
structure Region where
  assigned : Bool
  base : Nat
  size : Nat
  policy : FullPolicy
  items : List Held
  accepted : Nat
  retired : Nat
  discarded : Nat
  deriving DecidableEq, Repr

/-- The stamp store (section 7), and the sync builder's number (R122). -/
structure Store where
  /-- The serial counter: the last serial drawn (R129). -/
  serial : Nat
  regions : Vector Region 9
  /-- The pass-unassigned counter (R140). -/
  passUnassigned : Nat
  /-- The sync number counter (R122). -/
  syncNumber : Nat
  deriving DecidableEq, Repr

/-! ## Trunk ports and routing (section 8) -/

/-- The counters of one side (R163). `hopLimit` is counted on side A only, `filtered` on side B only. -/
structure SideCounters where
  received : Nat
  checkFailures : Nat
  malformed : Nat
  misdirected : Nat
  hopLimit : Nat
  filtered : Nat
  transmitted : Nat
  deriving DecidableEq, Repr

/-- A transmission in progress on side A, by its source (R156): a packet of the reply queue, the report slot or
the up FIFO, or the local item with a serial. -/
inductive SideATransmission where
  | reply (words : List Word)
  | report (words : List Word)
  | upFifo (words : List Word)
  | item (serial : Nat) (words : List Word)
  deriving DecidableEq, Repr

/-- A transmission in progress on side B, by its source (R157). -/
inductive SideBTransmission where
  | time (words : List Word)
  | reply (words : List Word)
  | downFifo (words : List Word)
  deriving DecidableEq, Repr

/-- A regenerated TIME packet waiting in the TIME slot: what is taken when it enters (R7, R8, R9). Its H_m is
taken when its transmission starts. -/
structure TimeSlot where
  rate : Rate
  hop : Nat
  quality : Quality
  deriving DecidableEq, Repr

/-- The receiver of a port: its condition, and the arrival capture of the packet being received (R146). -/
structure PortReceiver where
  condition : Receiver
  capture : Nat
  deriving DecidableEq, Repr

/-- One trunk port. -/
structure Port where
  receiver : PortReceiver
  /-- The reply queue, head first (R154). -/
  replies : List (List Word)
  counters : SideCounters
  deriving DecidableEq, Repr

inductive Cause where
  | refLost
  | timeStep
  | slewBegin
  | lockLost
  | lockGained
  | qualityChange
  | takeLost
  | regionFull
  | syncOrphan
  | overrun
  | trunkOverflow
  | checkError
  deriving DecidableEq, Repr

/-- A REPORT as emitted (R186). -/
structure Report where
  cause : Cause
  trackerState : TrackerState
  quality : Quality
  time : Nat
  stepCount : Nat
  drops : DropMask
  count : Nat
  deriving DecidableEq, Repr

/-- A route table entry (R158). The kind is the two-bit code of the record (0 STAMP, 1 SYNC): an entry that is
not valid is stored as given, whatever its code. -/
structure Route where
  valid : Bool
  kind : BitVec 2
  up : Bool
  base : Nat
  size : Nat
  copyMask : DropMask
  deriving DecidableEq, Repr

/-- The trunk ports, the FIFOs between them, the route table and the station (section 8). -/
structure Trunk where
  sideA : Port
  sideB : Port
  upFifo : List (List Word)
  downFifo : List (List Word)
  reportSlot : Option Report
  timeSlot : Option TimeSlot
  transmissionA : Option SideATransmission
  transmissionB : Option SideBTransmission
  upOverflow : Nat
  downOverflow : Nat
  routes : Vector Route 32
  /-- The station number as latched (R161). -/
  station : BitVec 6
  deriving DecidableEq, Repr

/-! ## Management (section 9) -/

/-- A request in the management queue: the MGMT packet and the side it arrived on (R165). -/
structure Request where
  side : Side
  words : List Word
  deriving DecidableEq, Repr

/-- A composed REPLY packet and the side it leaves on (R154). -/
structure Reply where
  side : Side
  words : List Word
  deriving DecidableEq, Repr

/-- The management unit (R165, R166). -/
structure Management where
  queue : List Request
  /-- The reply the unit is holding; none while it is ready (R166). -/
  held : Option Reply
  /-- STORE_TRIM replies waiting for room, in the order generated (R154). -/
  trimReplies : List Reply
  /-- The management-queue discard counter (R165). -/
  discards : Nat
  deriving DecidableEq, Repr

/-! ## Reports (section 10) -/

/-- A cause's latch (R181). -/
structure Latch where
  pending : Bool
  drops : DropMask
  count : Nat
  deriving DecidableEq, Repr

/-- The report unit (section 10); the enables and the holdoff stand in the PART record. -/
structure ReportUnit where
  /-- The twelve latches, cause 1 first. -/
  latches : Vector Latch 12
  gateOpen : Bool
  timerRunning : Bool
  timerCount : Nat
  /-- THE MODEL'S OWN: the count reached the holdoff at a house boundary event and HOLDOFF_EXPIRY has not yet
  been taken (R184: the count is compared at a house boundary event; the table makes the expiry a step). -/
  expiryDue : Bool
  deriving DecidableEq, Repr

/-! ## The state -/

/-- The state of the part. -/
structure State where
  /-- The part is in power-on reset (R193). -/
  inReset : Bool
  clock : Clock
  house : HouseCadence
  trim : TrimCell
  tracker : Tracker
  part : PartRecord
  drops : Vector Drop 8
  intake : Intake
  labels : LabelUnit
  store : Store
  trunk : Trunk
  mgmt : Management
  reports : ReportUnit
  /-- The commands that are waiting, first in, first out. -/
  pending : List Instr
  deriving DecidableEq, Repr

/-- Why the part would stop. The manual gives no event after which the part stops: there is no such reason. -/
inductive Fault where
  deriving DecidableEq, Repr

/-- Why a command would have no meaning. -/
inductive Refusal where
  /-- Raised by `exec`'s arm of a command that has no meaning yet; safe. No arm raises it now. -/
  | notModelled (mnemonic : String)
  deriving DecidableEq, Repr

/-! ## Power-on values -/

/-- R45. -/
def Profile.atPowerOn : Profile :=
  { enabled := false, role := .monitor, clapCapable := false, rate := .fps24000over1001, dropFrame := false,
    pull := .none, offset := 0, audio := .none, dfFunction := .pulse, pulseWidth := 960000,
    userBitsSource := .fixed, fixedBits := Vector.replicate 8 0#4, frameFeed := true,
    lineFunction := .packet, clocking := .part, lineRate := .mbit2, quietLimit := 0, stampWindow := 12 }

/-- R52. -/
def Cadence.atPowerOn : Cadence :=
  { anchor := 0, target := 0, boundary := 0, lastFrame := 0, pendingProfile := none, pendingAnchor := false,
    stepped := false }

/-- R64: low at power-on. `held` stands for no level yet: nothing reads it before a HOLD applies and writes it (DESIGN
CHOICE: notes/assumptions/31.md). -/
def DfLine.atPowerOn : DfLine := { level := false, pulseEnd := none, held := false, waitsForBoundary := false }

/-- R103. -/
def DropCounters.cleared : DropCounters :=
  { received := 0, checkFailures := 0, malformed := 0, overruns := 0, waits := 0, framesSent := 0, skips := 0,
    copiesSent := 0, transmitAborts := 0, dormancies := 0, wakes := 0, flushed := 0, roleRefusals := 0,
    unassignedDiscards := 0 }

/-- R81, R85, R92, R96, R100, R103. The power-on values of the holding register and the frame slot (empty), the wait flag
and the activity flag (clear) and the two stall counts (0) are the model's choice: the manual states none (DESIGN CHOICE:
notes/assumptions/31.md). -/
def Line.atPowerOn : Line :=
  { state := .disabled, shift := .hunting, receiveStall := 0, holding := none, slot := none, copyQueue := [],
    transmission := none, transmitStall := 0, wait := false, quietTimer := 0, activity := false,
    counters := DropCounters.cleared }

/-- R114. -/
def Take.atPowerOn : Take :=
  { state := .idle, number := 0, rollTime := 0, rollSerial := 0, clapCount := 0, rebased := false,
    lastClose := .none, counter := 0 }

def Drop.atPowerOn : Drop :=
  { profile := Profile.atPowerOn, cadence := Cadence.atPowerOn, df := DfLine.atPowerOn, line := Line.atPowerOn,
    take := Take.atPowerOn }

/-- R126: entries 0 to 7. -/
def Region.unassignedAtPowerOn : Region :=
  { assigned := false, base := 0, size := 8, policy := .refuse, items := [], accepted := 0, retired := 0,
    discarded := 0 }

/-- R126: entry 8, the pass region. -/
def Region.passAtPowerOn : Region :=
  { assigned := true, base := 448, size := 64, policy := .replaceOldest, items := [], accepted := 0, retired := 0,
    discarded := 0 }

/-- R158. -/
def Route.atPowerOn : Route := { valid := false, kind := 0#2, up := false, base := 0, size := 1, copyMask := 0#8 }

/-- R163. -/
def SideCounters.cleared : SideCounters :=
  { received := 0, checkFailures := 0, malformed := 0, misdirected := 0, hopLimit := 0, filtered := 0,
    transmitted := 0 }

/-- R146, R154. -/
def Port.atPowerOn : Port :=
  { receiver := { condition := .hunting, capture := 0 }, replies := [], counters := SideCounters.cleared }

/-- R22, R172. -/
def PartRecord.atPowerOn : PartRecord :=
  { propShift := 1, intShift := 4, lockWindow := 960, stepThreshold := 9600000, nLock := 8, nOut := 3, lMiss := 5,
    slewPpm := 200, jamPolicy := .guarded, trunkDelay := 0, causeEnables := 0#12, timingEnable := false,
    trafficEnable := false, holdoff := 4 }

/-- R26, R36, R42; A is 0 until power-on reset ends and loads it (R14). -/
def Tracker.atPowerOn : Tracker :=
  { state := .acquire, drift := 0, lastError := 0, lastInterval := 0, lockCount := 0, outlierCount := 0,
    missingTime := 0, expiryDue := false, firstArrival := true, forceJam := false, hold := false,
    heldFromAcquire := false, guardFlag := false, upstream := .unreferenced }

/-- R188: not pending, empty mask, count 0. -/
def Latch.clear : Latch := { pending := false, drops := 0#8, count := 0 }

/-- R188. -/
def ReportUnit.atPowerOn : ReportUnit :=
  { latches := Vector.replicate 12 Latch.clear, gateOpen := true, timerRunning := false, timerCount := 0,
    expiryDue := false }

/-- R126, R129, R140, R122. -/
def Store.atPowerOn : Store :=
  { serial := 0, regions := (Vector.replicate 9 Region.unassignedAtPowerOn).set 8 Region.passAtPowerOn,
    passUnassigned := 0, syncNumber := 0 }

/-- R152, R154, R155, R158, R162, R163; the station is latched when power-on reset ends (R161). -/
def Trunk.atPowerOn : Trunk :=
  { sideA := Port.atPowerOn, sideB := Port.atPowerOn, upFifo := [], downFifo := [], reportSlot := none,
    timeSlot := none, transmissionA := none, transmissionB := none, upOverflow := 0, downOverflow := 0,
    routes := Vector.replicate 32 Route.atPowerOn, station := 0#6 }

/-- Every state at its power-on value (R193), while power-on reset lasts. The trim value is the one state kept
through it (R13), so it is an argument. -/
def State.inPowerOnReset (trimValue : Int) : State :=
  { inReset := true,
    clock := { time := 0, fraction := 0, correction := 0, divider := 0, stepCount := 0, receivedHop := 0,
               anyArrival := false },
    house := { rate := .fps24000over1001, pendingRate := none, boundary := 8008000 },
    trim := { value := trimValue, write := none },
    tracker := Tracker.atPowerOn,
    part := PartRecord.atPowerOn,
    drops := Vector.replicate 8 Drop.atPowerOn,
    intake := { lastServed := 7, inProcess := none },
    labels := { sceneIndex := 0, userBits := Vector.replicate 64 (Vector.replicate 8 0#4) },
    store := Store.atPowerOn,
    trunk := Trunk.atPowerOn,
    mgmt := { queue := [], held := none, trimReplies := [], discards := 0 },
    reports := ReportUnit.atPowerOn,
    pending := [] }

/-- The part right after power-on reset has ended (R193), with the trim cell holding 0 and the station strapped 0
(DESIGN CHOICE, unsafe: notes/assumptions/1.md; the manual states neither the factory's trim value nor a strap). -/
def State.reset : State := { State.inPowerOnReset 0 with inReset := false }

end Sys2Proof.Machine
end

