-- ==== Sys2Proof/Machine/Ops.lean ====
section
/-! DEFINITION. The named operations over the state that every block uses: replacing one block's state,
reading and updating one drop, one port or one region, saturating and wrapping counts, house time at an
instant, the part quality, the latching of a report cause, and the route lookup. -/

namespace Sys2Proof.Machine

/-! ## Counts -/

/-- One more, stopping at `top` (Conventions: a counter that saturates). -/
def satInc (top n : Nat) : Nat := min top (n + 1)

/-- One more on a 16-bit counter that saturates at 65,535 (R103, R163). -/
def satInc16 (n : Nat) : Nat := satInc 65535 n

/-- `k` more on a 32-bit count that wraps (R129, R144). -/
def wrapAdd32 (n k : Nat) : Nat := (n + k) % Config.serialEnd

/-- A value limited to the range ±`bound` (Conventions: limiting). -/
def limitAbs (bound i : Int) : Int := max (-bound) (min bound i)

/-- Every element of a vector, updated. -/
def vmap {α β : Type} {n : Nat} (f : α → β) (v : Vector α n) : Vector β n := ⟨(v.toList.map f).toArray, by simp⟩

/-! ## Replacing one block's state -/

def State.setClock (s : State) (x : Clock) : State := { s with clock := x }
def State.setHouse (s : State) (x : HouseCadence) : State := { s with house := x }
def State.setTrim (s : State) (x : TrimCell) : State := { s with trim := x }
def State.setTracker (s : State) (x : Tracker) : State := { s with tracker := x }
def State.setPart (s : State) (x : PartRecord) : State := { s with part := x }
def State.setDrops (s : State) (x : Vector Drop 8) : State := { s with drops := x }
def State.setIntake (s : State) (x : Intake) : State := { s with intake := x }
def State.setLabels (s : State) (x : LabelUnit) : State := { s with labels := x }
def State.setStore (s : State) (x : Store) : State := { s with store := x }
def State.setTrunk (s : State) (x : Trunk) : State := { s with trunk := x }
def State.setMgmt (s : State) (x : Management) : State := { s with mgmt := x }
def State.setReports (s : State) (x : ReportUnit) : State := { s with reports := x }

/-! ## Drops -/

/-- The eight drops, in increasing number. -/
def allDrops : List DropId := [0, 1, 2, 3, 4, 5, 6, 7]

/-- What the part holds for drop `d`. -/
def State.drop (s : State) (d : DropId) : Drop := s.drops[d.val]

/-- Change what the part holds for drop `d`. -/
def State.updDrop (s : State) (d : DropId) (f : Drop → Drop) : State :=
  s.setDrops (s.drops.set d.val (f (s.drop d)))

/-- Change what the part holds for every drop. -/
def State.updAllDrops (s : State) (f : Drop → Drop) : State := s.setDrops (vmap f s.drops)

def State.updProfile (s : State) (d : DropId) (f : Profile → Profile) : State :=
  s.updDrop d (fun x => { x with profile := f x.profile })
def State.updCadence (s : State) (d : DropId) (f : Cadence → Cadence) : State :=
  s.updDrop d (fun x => { x with cadence := f x.cadence })
def State.updDf (s : State) (d : DropId) (f : DfLine → DfLine) : State :=
  s.updDrop d (fun x => { x with df := f x.df })
def State.updLine (s : State) (d : DropId) (f : Line → Line) : State :=
  s.updDrop d (fun x => { x with line := f x.line })
def State.updTake (s : State) (d : DropId) (f : Take → Take) : State :=
  s.updDrop d (fun x => { x with take := f x.take })
def State.updCounters (s : State) (d : DropId) (f : DropCounters → DropCounters) : State :=
  s.updLine d (fun l => { l with counters := f l.counters })

/-- The drop is ACTIVE or DORMANT. -/
def Line.enabled (l : Line) : Bool := l.state != .disabled

/-- The mask of one drop. -/
def maskOf (d : DropId) : DropMask := 1#8 <<< d.val

/-- The mask names the drop. -/
def names (m : DropMask) (d : DropId) : Bool := m.getLsbD d.val

/-- The drops of a mask that are enabled and of role EDIT in their profile in force (R159). -/
def State.editMask (s : State) : DropMask :=
  allDrops.foldl
    (fun m d => if (s.drop d).profile.enabled && (s.drop d).profile.role == .edit then m ||| maskOf d else m) 0#8

/-! ## House time at an instant (R3) -/

/-- A house time as its 64 bits hold it; past their end the value is free (notes/assumptions/3.md). -/
def houseTimeOf (x : Nat) : Nat := if x < Config.houseTimeEnd then x else (Config.houseTimePastEnd x).toNat

/-- The arrival phase at divider count `k`: floor(k × 125 / 16) house ticks (R3). -/
def arrivalPhase (k : DividerCount) : Nat := k.val * 125 / 16

/-- House time at the instant at which the divider stands at `k` (R3). -/
def State.houseTimeAt (s : State) (k : DividerCount) : Nat := houseTimeOf (s.clock.time + arrivalPhase k)

/-- The divider stands at `k` (R1): the commands taken at an instant say where. -/
def State.atDivider (s : State) (k : DividerCount) : State := s.setClock { s.clock with divider := k }

/-! ## Quality (R9) -/

/-- Quality codes, worse is greater (R9, section 11.2). -/
def Quality.code : Quality → Nat
  | .locked => 0
  | .tracking => 1
  | .freewheel => 2
  | .unreferenced => 3

/-- The quality of a two-bit code (section 11.2). -/
def Quality.ofCode : Nat → Quality
  | 0 => .locked
  | 1 => .tracking
  | 2 => .freewheel
  | _ => .unreferenced

/-- The own grade (R9). -/
def TrackerState.grade : TrackerState → Quality
  | .locked => .locked
  | .track => .tracking
  | .slew => .tracking
  | .freewheel => .freewheel
  | .acquire => .unreferenced

/-- The worse of two grades (R9). -/
def Quality.worse (x y : Quality) : Quality := if x.code < y.code then y else x

/-- The part quality: the worse of the own grade and the upstream quality (R9). -/
def State.partQuality (s : State) : Quality := s.tracker.state.grade.worse s.tracker.upstream

/-! ## Report causes (R180, R181) -/

/-- A cause's place in the priority order, counted from 0 (R180). -/
def Cause.index : Cause → Fin 12
  | .refLost => 0
  | .timeStep => 1
  | .slewBegin => 2
  | .lockLost => 3
  | .lockGained => 4
  | .qualityChange => 5
  | .takeLost => 6
  | .regionFull => 7
  | .syncOrphan => 8
  | .overrun => 9
  | .trunkOverflow => 10
  | .checkError => 11

/-- A latching: pending, the named drop added to the mask, the count one more, saturating at 255 (R181). -/
def Latch.add (l : Latch) (d : Option DropId) : Latch :=
  { pending := true,
    drops := match d with
      | some d => l.drops ||| maskOf d
      | none => l.drops,
    count := satInc 255 l.count }

/-- Latch a cause, naming a drop or none (R181). -/
def State.latch (s : State) (c : Cause) (d : Option DropId) : State :=
  s.setReports { s.reports with
    latches := s.reports.latches.set c.index.val (s.reports.latches[c.index.val].add d) }

/-! ## Station and route lookup (R159, R161) -/

/-- The part is addressed when strapped 1 to 62 (R161). -/
def State.addressed (s : State) : Bool := s.trunk.station != 0#6 && s.trunk.station != 63#6

/-- The source station of what the part originates, and the station its own items are looked up with: its
station, or 0 when the part is unaddressed (R161, R131). -/
def State.sourceStation (s : State) : Nat := if s.addressed then s.trunk.station.toNat else 0

/-- The kind a route entry covers: STAMP or SYNC (R158). -/
inductive RouteKind where
  | stamp
  | sync
  deriving DecidableEq, Repr

def RouteKind.code : RouteKind → BitVec 2
  | .stamp => 0#2
  | .sync => 1#2

/-- A valid entry of the kind whose range covers the station (R159). -/
def Route.covers (r : Route) (k : RouteKind) (station : Nat) : Bool :=
  r.valid && r.kind == k.code && r.base ≤ station && station < r.base + r.size

/-- The result of a lookup: UP, and the named drops that are enabled EDIT drops at the lookup (R159). -/
def State.lookup (s : State) (k : RouteKind) (station : Nat) : Bool × DropMask :=
  match s.trunk.routes.toList.find? (fun r => r.covers k station) with
  | some r => (r.up, r.copyMask &&& s.editMask)
  | none => (true, 0#8)

/-! ## Ports and regions -/

def Trunk.port (t : Trunk) : Side → Port
  | .a => t.sideA
  | .b => t.sideB

def State.port (s : State) (side : Side) : Port := s.trunk.port side

def State.updPort (s : State) (side : Side) (f : Port → Port) : State :=
  match side with
  | .a => s.setTrunk { s.trunk with sideA := f s.trunk.sideA }
  | .b => s.setTrunk { s.trunk with sideB := f s.trunk.sideB }

def State.updSideCounters (s : State) (side : Side) (f : SideCounters → SideCounters) : State :=
  s.updPort side (fun p => { p with counters := f p.counters })

/-- A region table index (R126). -/
abbrev RegionId := Fin 9

/-- The region of a drop's items (R130). -/
def dropRegion (d : DropId) : RegionId := ⟨d.val, by omega⟩

/-- The pass region, entry 8 (R126). -/
def passRegion : RegionId := 8

def State.region (s : State) (r : RegionId) : Region := s.store.regions[r.val]

def State.updRegion (s : State) (r : RegionId) (f : Region → Region) : State :=
  s.setStore { s.store with regions := s.store.regions.set r.val (f (s.region r)) }

def State.updAllRegions (s : State) (f : Region → Region) : State :=
  s.setStore { s.store with regions := vmap f s.store.regions }

/-! ## Outcomes -/

/-- What a command's meaning answers. -/
abbrev Answer := Host.Outcome State Fault Refusal

/-- While power-on reset lasts no event but the two of R193 is taken: transmitters idle, receivers ignoring
their pairs, no epoch (R193). Out of it, the event has its effect. -/
def whenRunning (s : State) (effect : State → State) : Answer := .next (if s.inReset then s else effect s)

end Sys2Proof.Machine
end

