-- ==== Sys2Proof/Machine/Conversions.lean ====
section
/-! DEFINITION. The rate table (R4, R47), the forward and inverse conversions between house time and drop
time (R48, R50), what the rate translator gives from a drop time (R49), and a boundary computed from a house
time (R53). -/

namespace Sys2Proof.Machine

/-- Rate codes (R47). -/
def Rate.code : Rate → Nat
  | .fps24000over1001 => 1
  | .fps24 => 2
  | .fps25 => 3
  | .fps30000over1001 => 4
  | .fps30 => 5
  | .fps48000over1001 => 6
  | .fps48 => 7
  | .fps50 => 8
  | .fps60000over1001 => 9
  | .fps60 => 10
  | .fps100 => 11
  | .fps120000over1001 => 12
  | .fps120 => 13

/-- The rate of a code; 0, 14 and 15 are none (R4). -/
def Rate.ofCode : Nat → Option Rate
  | 1 => some .fps24000over1001
  | 2 => some .fps24
  | 3 => some .fps25
  | 4 => some .fps30000over1001
  | 5 => some .fps30
  | 6 => some .fps48000over1001
  | 7 => some .fps48
  | 8 => some .fps50
  | 9 => some .fps60000over1001
  | 10 => some .fps60
  | 11 => some .fps100
  | 12 => some .fps120000over1001
  | 13 => some .fps120
  | _ => none

/-- The frame period in house ticks, P_f and P_h (R47, R4). -/
def Rate.period : Rate → Nat
  | .fps24000over1001 => 8008000
  | .fps24 => 8000000
  | .fps25 => 7680000
  | .fps30000over1001 => 6406400
  | .fps30 => 6400000
  | .fps48000over1001 => 4004000
  | .fps48 => 4000000
  | .fps50 => 3840000
  | .fps60000over1001 => 3203200
  | .fps60 => 3200000
  | .fps100 => 1920000
  | .fps120000over1001 => 1601600
  | .fps120 => 1600000

/-- The label base (R47). -/
def Rate.base : Rate → Nat
  | .fps24000over1001 => 24
  | .fps24 => 24
  | .fps25 => 25
  | .fps30000over1001 => 30
  | .fps30 => 30
  | .fps48000over1001 => 48
  | .fps48 => 48
  | .fps50 => 50
  | .fps60000over1001 => 60
  | .fps60 => 60
  | .fps100 => 100
  | .fps120000over1001 => 120
  | .fps120 => 120

/-- The drop-frame flag may be set (R47). -/
def Rate.dropFrameAllowed (r : Rate) : Bool := r == .fps30000over1001 || r == .fps60000over1001

/-- The nominal interval N_nom of a house rate: P_h / 4,000, floor (R4). -/
def Rate.nominalInterval (r : Rate) : Nat := r.period / 4000

/-- The first multiple of the period above a house time (R5, R6). -/
def Rate.nextMultiple (r : Rate) (h : Nat) : Nat := (h / r.period + 1) * r.period

/-- The audio sample period P_s in house ticks, none without audio (R45). -/
def Audio.period : Audio → Option Nat
  | .none => Option.none
  | .khz48 => Option.some 4000
  | .khz96 => Option.some 2000
  | .khz192 => Option.some 1000

/-- The numerator pn of a pull (R48). -/
def Pull.num : Pull → Int
  | .none => 1
  | .down => 1000
  | .up => 1001

/-- The denominator pd of a pull (R48). -/
def Pull.den : Pull → Int
  | .none => 1
  | .down => 1001
  | .up => 1000

/-- The quotient rounded toward plus infinity, for a positive divisor. -/
def ceilDiv (a b : Int) : Int := -((-a) / b)

/-- The forward conversion: the drop time at a house time under a profile and an anchor (R48). -/
def forward (p : Profile) (anchor : Int) (h : Nat) : Nat :=
  let g : Int := max 0 ((h : Int) + p.offset)
  (max 0 (anchor + (g - anchor) * p.pull.num / p.pull.den)).toNat

/-- The inverse conversion: the house time of a drop time under a profile and an anchor (R50). -/
def inverse (p : Profile) (anchor : Int) (t : Nat) : Nat :=
  (max 0 (anchor + ceilDiv (((t : Int) - anchor) * p.pull.den) p.pull.num - p.offset)).toNat

/-- The frame number of a drop time (R49). -/
def frameOf (p : Profile) (t : Nat) : Nat := t / p.rate.period

/-- The subframe of a drop time: floor(φ × 256 / P_f), φ the phase (R49). -/
def subframeOf (p : Profile) (t : Nat) : Nat := t % p.rate.period * 256 / p.rate.period

/-- The sample stamp of a drop time, absent without audio (R49). -/
def sampleOf (p : Profile) (t : Nat) : Option Nat := p.audio.period.map (fun ps => t / ps)

/-- The drop time of a frame number and subframe (R110). -/
def deviceTime (p : Profile) (frame subframe : Nat) : Nat :=
  frame * p.rate.period + subframe * p.rate.period / 256

/-- The boundary computed from a house time (R53): the target and B of the frame after the one the forward
conversion stands in. -/
def Cadence.fromHouseTime (c : Cadence) (p : Profile) (h : Nat) : Cadence :=
  let target := (frameOf p (forward p c.anchor h) + 1) * p.rate.period
  { c with target := target, boundary := inverse p c.anchor target }

/-- The boundary computed from the previous target (R53). -/
def Cadence.fromTarget (c : Cadence) (p : Profile) : Cadence :=
  { c with target := c.target + p.rate.period, boundary := inverse p c.anchor (c.target + p.rate.period) }

end Sys2Proof.Machine
end

