-- ==== Sys2Proof/Machine/Labels.lean ====
section
/-! DEFINITION. Timecode labels from frame numbers and back (R68 to R74), the user bits (R77), and the
composition of a FRAME (R79). -/

namespace Sys2Proof.Machine

/-- A label: hours, minutes, seconds and frames (R68). -/
structure Label where
  hours : Nat
  minutes : Nat
  seconds : Nat
  frames : Nat
  deriving DecidableEq, Repr

/-- How drop-frame counting goes at base 30 and base 60 (R70, R71): the frames of a ten-minute block, the labels
left out at the start of a minute, and the frames of a minute after the block's first. -/
structure DropCounting where
  block : Nat
  left : Nat
  minute : Nat

/-- Drop-frame counting at base 30 (R70); the counts at base 60 are twice these (R71). -/
def dropCounting (base : Nat) : DropCounting :=
  if base == 60 then { block := 35964, left := 4, minute := 3596 }
  else { block := 17982, left := 2, minute := 1798 }

/-- The length of a label day in frames (R68). -/
def dayLength (base : Nat) (dropFrame : Bool) : Nat :=
  if dropFrame then 144 * (dropCounting base).block else base * 86400

/-- The non-drop label of a position (R69). -/
def nonDropLabel (base m : Nat) : Label :=
  { hours := m / (3600 * base), minutes := m / (60 * base) % 60, seconds := m / base % 60, frames := m % base }

/-- The non-drop count m′ of a drop-frame position (R70, R71). -/
def nonDropCount (base m : Nat) : Nat :=
  let k := dropCounting base
  let d := m / k.block
  let r := m % k.block
  m + 9 * k.left * d + (if k.left ≤ r then k.left * ((r - k.left) / k.minute) else 0)

/-- The label of a frame number under a label base and drop-frame flag (R68 to R71). -/
def labelOf (base : Nat) (dropFrame : Bool) (n : Nat) : Label :=
  let m := n % dayLength base dropFrame
  nonDropLabel base (if dropFrame then nonDropCount base m else m)

/-- The field ranges of a label (R72). -/
def Label.inRange (l : Label) (base : Nat) : Bool :=
  l.hours ≤ 23 && l.minutes ≤ 59 && l.seconds ≤ 59 && l.frames < base

/-- The label is one that drop-frame counting leaves out (R73). -/
def Label.leftOut (l : Label) (base : Nat) : Bool :=
  l.seconds == 0 && l.minutes % 10 != 0 && l.frames < (dropCounting base).left

/-- The day position of a label, and whether it was clamped to the first label of its minute (R73). -/
def Label.position (l : Label) (base : Nat) (dropFrame : Bool) : Nat × Bool :=
  let whole := (3600 * l.hours + 60 * l.minutes + l.seconds) * base
  if dropFrame then
    let left := (dropCounting base).left
    let clamped := l.leftOut base
    let ff := if clamped then left else l.frames
    let tm := 60 * l.hours + l.minutes
    (whole + ff - left * (tm - tm / 10), clamped)
  else (whole + l.frames, false)

/-- The distance of two frame numbers. -/
def distance (x y : Nat) : Nat := (x - y) + (y - x)

/-- The nearer of two candidates to a reference, the earlier one when they are as near (R74). The first is the
earlier. -/
def nearer (reference x y : Nat) : Nat := if distance y reference < distance x reference then y else x

/-- The frame number a day position resolves to: the candidate nearest the reference frame (R74). -/
def resolve (day m reference : Nat) : Nat :=
  let k := reference / day
  let later := nearer reference (k * day + m) ((k + 1) * day + m)
  if 1 ≤ k then nearer reference ((k - 1) * day + m) later else later

/-! ## User bits (R77) -/

/-- A decimal digit. -/
def digit (n : Nat) : BitVec 4 := BitVec.ofNat 4 (n % 10)

/-- The eight digits under the TAKE source (R77). -/
def takeDigits (t : Take) (scene : Nat) : Digits :=
  let n := t.number % 10000
  #v[digit (n / 1000), digit (n / 100), digit (n / 10), digit n, digit (scene / 10), digit scene, 0#4,
    if t.state == .rolling then 1#4 else 0#4]

/-- The user-bits table entry at an index (R67). -/
def LabelUnit.entry (u : LabelUnit) (i : Nat) : Digits := u.userBits.toList.getD i (Vector.replicate 8 0#4)

/-- The user bits of a drop's FRAME (R77). -/
def State.userBitsOf (s : State) (d : DropId) : Digits :=
  match (s.drop d).profile.userBitsSource with
  | .fixed => (s.drop d).profile.fixedBits
  | .take => takeDigits (s.drop d).take s.labels.sceneIndex
  | .table => s.labels.entry s.labels.sceneIndex

/-- The FRAME composed at a boundary event for frame `n` begun at drop time `t` (R79). -/
def State.composeFrame (s : State) (d : DropId) (n t : Nat) : Frame :=
  let p := (s.drop d).profile
  let l := labelOf p.rate.base p.dropFrame n
  { number := n, hours := l.hours, minutes := l.minutes, seconds := l.seconds, frames := l.frames,
    dropFrame := p.dropFrame, userBits := s.userBitsOf d, sample := sampleOf p t, quality := s.partQuality,
    stepCount := s.clock.stepCount, scene := s.labels.sceneIndex, stepped := (s.drop d).cadence.stepped,
    skipped := false }

end Sys2Proof.Machine
end

