-- ==== Sys2Proof/Machine/Packets.lean ====
section
/-! DEFINITION. The payload layouts of sections 11.2 and 11.5: items as STAMP, SYNC and COPY payloads, and
back; FRAME, TIME and REPORT packets; the STAMP a device sends (R104, R192). -/

namespace Sys2Proof.Machine

/-! ## Items (section 11.2) -/

def StampKind.code : StampKind → Nat
  | .roll => 1
  | .cut => 2
  | .clap => 3
  | .mark _ => 4
  | .metaScene _ => 5

/-- The last optional word: the scene index of a META, the code of a MARK. -/
def StampKind.extraWords : StampKind → List Word
  | .mark code => [wordOf code]
  | .metaScene scene => [wordOf (place scene 0 6)]
  | _ => []

/-- The kind of a kind code, with its optional word; none for a code that is none of the five. -/
def stampKindOf (code : Nat) (extra : Word) : Option StampKind :=
  match code with
  | 1 => some .roll
  | 2 => some .cut
  | 3 => some .clap
  | 4 => some (.mark extra.toNat)
  | 5 => some (.metaScene (bitsOf extra 0 6))
  | _ => none

/-- The flag bits of word 3, bits 15 to 9. -/
def StampFlags.bits (f : StampFlags) : Nat :=
  flagAt f.unverified 15 + flagAt f.preStep 14 + flagAt f.synthetic 13 + flagAt f.labelClamped 12
    + flagAt f.orphanCut 11 + flagAt f.orphan 10 + flagAt f.rebased 9

def StampFlags.ofWord (w : Word) : StampFlags :=
  { unverified := bitOf w 15, preStep := bitOf w 14, synthetic := bitOf w 13, labelClamped := bitOf w 12,
    orphanCut := bitOf w 11, orphan := bitOf w 10, rebased := bitOf w 9 }

/-- The payload of a STAMP packet (section 11.2). -/
def StampItem.payload (i : StampItem) (serial : Nat) : List Word :=
  natToWords 2 serial
    ++ [wordOf (place i.kind.code 12 4 + place i.sourceDrop 8 4 + place i.subframe 0 8),
        wordOf (i.flags.bits + flagAt i.takeNumber.isSome 8)]
    ++ natToWords 4 i.time ++ natToWords 3 i.frame
    ++ (match i.takeNumber with
      | some n => [wordOf n]
      | none => [])
    ++ i.kind.extraWords

/-- The STAMP item of a payload; none for a kind code that is none of the five. -/
def StampItem.ofPayload (ws : List Word) : Option StampItem :=
  let takePresent := bitOf (wordAt ws 3) 8
  let extra := wordAt ws (if takePresent then 12 else 11)
  (stampKindOf (bitsOf (wordAt ws 2) 12 4) extra).map (fun kind =>
    { kind := kind, sourceDrop := bitsOf (wordAt ws 2) 8 4, time := natOfWords (wordsFrom ws 4 4),
      frame := natOfWords (wordsFrom ws 8 3), subframe := bitsOf (wordAt ws 2) 0 8,
      flags := StampFlags.ofWord (wordAt ws 3),
      takeNumber := if takePresent then some (wordAt ws 11).toNat else none })

/-- A participant record of a SYNC payload. -/
def Participant.words (p : Participant) : List Word :=
  [wordOf (place p.drop 12 4 + flagAt p.samplePresent 11), wordOf p.takeNumber] ++ natToWords 3 p.frame
    ++ [wordOf (place p.subframe 0 8)] ++ natToWords 3 p.sample

def Participant.ofWords (ws : List Word) : Participant :=
  { drop := bitsOf (wordAt ws 0) 12 4, takeNumber := (wordAt ws 1).toNat, frame := natOfWords (wordsFrom ws 2 3),
    subframe := bitsOf (wordAt ws 5) 0 8, samplePresent := bitOf (wordAt ws 0) 11,
    sample := natOfWords (wordsFrom ws 6 3) }

/-- The payload of a SYNC packet (section 11.2). -/
def SyncItem.payload (i : SyncItem) (serial : Nat) : List Word :=
  natToWords 2 serial ++ [wordOf i.number] ++ natToWords 4 i.time
    ++ [wordOf (place i.sourceDrop 12 4 + flagAt i.unverified 11 + flagAt i.preStep 10
          + place i.participants.length 0 4)]
    ++ i.participants.flatMap Participant.words

/-- The SYNC item of a payload. -/
def SyncItem.ofPayload (ws : List Word) : SyncItem :=
  { number := (wordAt ws 2).toNat, time := natOfWords (wordsFrom ws 3 4), sourceDrop := bitsOf (wordAt ws 7) 12 4,
    unverified := bitOf (wordAt ws 7) 11, preStep := bitOf (wordAt ws 7) 10,
    participants := (List.range (bitsOf (wordAt ws 7) 0 4)).map
      (fun j => Participant.ofWords (wordsFrom ws (8 + 9 * j) 9)) }

/-- The trunk kind an item's packet has. -/
def ItemBody.trunkKind : ItemBody → TrunkKind
  | .stamp _ => .stamp
  | .sync _ => .sync

/-- The route kind an item is looked up with (R131). -/
def ItemBody.routeKind : ItemBody → RouteKind
  | .stamp _ => .stamp
  | .sync _ => .sync

/-- The trunk payload of an item under a serial. -/
def ItemBody.payload : ItemBody → Nat → List Word
  | .stamp i, serial => i.payload serial
  | .sync i, serial => i.payload serial

/-- The STAMP or SYNC packet composed from an item at its start on side A (R156). -/
def State.itemPacket (s : State) (h : Held) : List Word :=
  trunkPacket Config.controllerStation s.sourceStation h.item.trunkKind 0 0 (h.item.payload h.serial)

/-- The COPY packet composed from an item at its start on a drop (R93, section 11.5). -/
def copyPacket (h : Held) : List Word :=
  dropPacket copyCode (wordOf (trunkKindCode h.item.trunkKind) :: h.item.payload h.serial)

/-! ## FRAME (section 11.5) -/

/-- The payload of a FRAME packet; a sample stamp is carried modulo 2^48 (section 11.2). -/
def Frame.payload (f : Frame) : List Word :=
  natToWords 3 f.number
    ++ [wordOf (place f.hours 8 8 + place f.minutes 0 8),
        wordOf (place f.seconds 8 8 + flagAt f.dropFrame 7 + place f.frames 0 7)]
    ++ digitWords f.userBits
    ++ [wordOf (place f.quality.code 14 2 + place f.scene 8 6 + flagAt f.stepped 7 + flagAt f.skipped 6
          + flagAt f.sample.isSome 5),
        wordOf f.stepCount]
    ++ (match f.sample with
      | some n => natToWords 3 n
      | none => [])

def Frame.packet (f : Frame) : List Word := dropPacket frameCode f.payload

/-! ## TIME (section 11.2) -/

/-- The regenerated TIME packet, with H_m taken at its start (R7). -/
def State.timePacket (s : State) (t : TimeSlot) (k : DividerCount) : List Word :=
  trunkPacket 0 s.sourceStation .time t.hop 0
    (natToWords 4 (s.houseTimeAt k) ++ [wordOf (place t.rate.code 12 4 + place t.quality.code 10 2)])

/-- H_m of a TIME payload. -/
def timeOfPayload (ws : List Word) : Nat := natOfWords (wordsFrom ws 0 4)

/-- The house rate code of a TIME payload. -/
def rateCodeOfPayload (ws : List Word) : Nat := bitsOf (wordAt ws 4) 12 4

/-- The quality of a TIME payload. -/
def qualityOfPayload (ws : List Word) : Quality := Quality.ofCode (bitsOf (wordAt ws 4) 10 2)

/-! ## REPORT (section 11.2) -/

def TrackerState.code : TrackerState → Nat
  | .acquire => 0
  | .track => 1
  | .locked => 2
  | .slew => 3
  | .freewheel => 4

/-- A cause's code, its priority 1 to 12 (R180). -/
def Cause.code (c : Cause) : Nat := c.index.val + 1

/-- The class of a cause is TRAFFIC; otherwise it is TIMING (R180). -/
def Cause.isTraffic (c : Cause) : Bool := 6 ≤ c.index.val

def Report.payload (r : Report) : List Word :=
  [wordOf (place r.cause.code 12 4 + flagAt r.cause.isTraffic 11 + place r.trackerState.code 8 3
      + place r.quality.code 6 2),
    wordOf r.stepCount] ++ natToWords 4 r.time ++ [wordOf (place r.drops.toNat 8 8 + place r.count 0 8)]

/-- The REPORT packet (R155, R186). -/
def State.reportPacket (s : State) (r : Report) : List Word :=
  trunkPacket Config.controllerStation s.sourceStation .report 0 0 r.payload

/-! ## The STAMP of a device (R104, section 11.5) -/

/-- The moment a device's stamp names: a frame number, or a label. -/
inductive Moment where
  | frame (n : Nat)
  | label (l : Label)
  deriving DecidableEq, Repr

/-- A device's stamp as read (R104, R192). -/
structure DeviceStamp where
  kind : StampKind
  moment : Moment
  subframe : Nat
  takeNumber : Option Nat
  deriving DecidableEq, Repr

/-- The payload words of a drop packet. -/
def dropPayload (ws : List Word) : List Word := (body ws).drop 2

/-- A stamp read from its payload; none when its kind code or form code is invalid or it carries take number
0 as present (R105), words past the payload reading 0 (R192). The range of a label is judged apart (R72). -/
def DeviceStamp.ofPayload (ws : List Word) : Option DeviceStamp :=
  let w := wordAt ws 0
  let takePresent := bitOf w 9
  let take := (wordAt ws 4).toNat
  let extra := wordAt ws (if takePresent then 5 else 4)
  let moment : Option Moment :=
    match bitsOf w 10 2 with
    | 0 => some (.frame (natOfWords (wordsFrom ws 1 3)))
    | 1 => some (.label { hours := bitsOf (wordAt ws 1) 8 8, minutes := bitsOf (wordAt ws 1) 0 8,
                          seconds := bitsOf (wordAt ws 2) 8 8, frames := bitsOf (wordAt ws 2) 0 8 })
    | _ => none
  match stampKindOf (bitsOf w 12 4) extra, moment with
  | some kind, some moment =>
    if takePresent && take == 0 then none
    else some { kind := kind, moment := moment, subframe := bitsOf w 0 8,
                takeNumber := if takePresent then some take else none }
  | _, _ => none

end Sys2Proof.Machine
end

