-- ==== Sys2Proof/Machine/Store.lean ====
section
/-! DEFINITION. The stamp store and the delivery scheduler (section 7): serials and ages, admission and the full
policies, filling the copy queues, removal from delivery sets, retirement and discard. -/

namespace Sys2Proof.Machine

/-! ## Items, ages and flight -/

/-- Every held item, region by region. -/
def State.heldItems (s : State) : List Held := s.store.regions.toList.flatMap (fun r => r.items)

/-- The age of a held item: the counter less its serial, modulo 2^32 (R129). -/
def State.age (s : State) (h : Held) : Nat := (s.store.serial + Config.serialEnd - h.serial) % Config.serialEnd

/-- The item of greatest age in a list. -/
def oldestBy (age : Held → Nat) : List Held → Option Held
  | [] => none
  | h :: rest =>
    match oldestBy age rest with
    | none => some h
    | some b => if age b ≤ age h then some h else some b

/-- The oldest held item with a property, over every region (R129). -/
def State.oldest (s : State) (p : Held → Bool) : Option Held := oldestBy s.age (s.heldItems.filter p)

/-- The held item with a serial. -/
def State.findItem (s : State) (serial : Nat) : Option Held := s.heldItems.find? (fun h => h.serial == serial)

/-- The item is in transmission on side A (R136). -/
def State.sendingOnA (s : State) (serial : Nat) : Bool :=
  match s.trunk.transmissionA with
  | some (.item n _) => n == serial
  | _ => false

/-- The item is in flight: in a copy queue, or in transmission on side A (R133). -/
def State.inFlight (s : State) (serial : Nat) : Bool :=
  allDrops.any (fun d => (s.drop d).line.copyQueue.contains serial) || s.sendingOnA serial

/-- The delivery set is not empty (R131). -/
def Held.owed (h : Held) : Bool := h.up || h.drops != 0#8

/-- A drop out of a delivery set. -/
def Held.withoutDrop (d : DropId) (h : Held) : Held := { h with drops := h.drops &&& ~~~(maskOf d) }

/-- UP out of a delivery set. -/
def Held.withoutUp (h : Held) : Held := { h with up := false }

/-! ## Filling the copy queues (R134) -/

/-- The scheduler may add to the drop's copy queue (R134). -/
def State.takesCopies (s : State) (d : DropId) : Bool :=
  let x := s.drop d
  x.profile.enabled && x.profile.role == .edit && x.line.state == .active && x.profile.lineFunction == .packet
    && x.line.copyQueue.length < Config.queuePlaces

/-- The item owed to the drop that enters its queue next (R134). -/
def State.nextCopy (s : State) (d : DropId) : Option Held :=
  s.oldest (fun h => names h.drops d && !(s.drop d).line.copyQueue.contains h.serial)

/-- Add one item to the drop's copy queue, where it can take one and one is owed (R134). -/
def State.fillOne (s : State) (d : DropId) : State :=
  if s.takesCopies d then
    match s.nextCopy d with
    | some h => s.updLine d (fun l => { l with copyQueue := l.copyQueue ++ [h.serial] })
    | none => s
  else s

/-- Fill the drop's copy queue: four additions reach four entries or find no item left (R134). -/
def State.fill (s : State) (d : DropId) : State := (((s.fillOne d).fillOne d).fillOne d).fillOne d

/-- Fill the copy queues of the drops of a mask. -/
def State.fillNamed (s : State) (m : DropMask) : State :=
  allDrops.foldl (fun s d => if names m d then s.fill d else s) s

/-! ## Discard (R139) -/

/-- A held item leaves its region as discarded (R139, R144). -/
def Region.discard (serial : Nat) (r : Region) : Region :=
  if r.items.any (fun h => h.serial == serial) then
    { r with items := r.items.eraseP (fun h => h.serial == serial), discarded := wrapAdd32 r.discarded 1 }
  else r

/-- The entry of a discarded item leaves the drop's copy queue and filling is considered; a transmission of it
goes on (R139, R134). -/
def State.unqueue (s : State) (serial : Nat) (d : DropId) : State :=
  if (s.drop d).line.copyQueue.contains serial then
    (s.updLine d (fun l => { l with copyQueue := l.copyQueue.filter (fun n => n != serial) })).fill d
  else s

/-- Discard a held item: out of its region, and its entries out of the copy queues (R139). -/
def State.discardItem (s : State) (serial : Nat) : State :=
  allDrops.foldl (fun s d => s.unqueue serial d) (s.updAllRegions (Region.discard serial))

/-- Discard held items one after another. -/
def State.discardItems (s : State) (items : List Held) : State :=
  items.foldl (fun s h => s.discardItem h.serial) s

/-- The held items whose age has reached 2^31 (R129). -/
def State.staleItems (s : State) : List Held := s.heldItems.filter (fun h => Config.staleAge ≤ s.age h)

/-- Discard every stale item (R129). -/
def State.discardStale (s : State) : State := s.discardItems s.staleItems

/-! ## Removal from delivery sets and retirement (R137, R138) -/

/-- Change delivery sets; items whose set is then empty retire (R137). -/
def Region.strip (f : Held → Held) (r : Region) : Region :=
  let items := r.items.map f
  let kept := items.filter Held.owed
  { r with items := kept, retired := wrapAdd32 r.retired (items.length - kept.length) }

/-- Change the delivery sets of held items, in every region; items whose set is then empty retire. -/
def State.strip (s : State) (f : Held → Held) : State := s.updAllRegions (Region.strip f)

/-- The drop leaves the set of every held item (R138, R142). -/
def State.leaveSets (s : State) (d : DropId) : State := s.strip (Held.withoutDrop d)

/-- The drop leaves the set of every held item that its copy queue does not hold (R138: role change). -/
def State.leaveUnqueuedSets (s : State) (d : DropId) : State :=
  let queue := (s.drop d).line.copyQueue
  s.strip (fun h => if queue.contains h.serial then h else h.withoutDrop d)

/-- The drop has received the item: it leaves that item's set (R135). -/
def State.deliveredToDrop (s : State) (serial : Nat) (d : DropId) : State :=
  s.strip (fun h => if h.serial == serial then h.withoutDrop d else h)

/-- The item has gone out of side A: UP leaves its set (R136). -/
def State.deliveredUp (s : State) (serial : Nat) : State :=
  s.strip (fun h => if h.serial == serial then h.withoutUp else h)

/-! ## Serials and admission (R129 to R133) -/

/-- Draw a serial: the counter increases by one, and items that have gone stale at this draw are discarded
(R129). The serial drawn is the counter afterwards. -/
def State.drawSerial (s : State) : State :=
  (s.setStore { s.store with serial := wrapAdd32 s.store.serial 1 }).discardStale

/-- An item whose set is empty retires without taking a slot (R130 step 3). -/
def Region.retireAtOnce (r : Region) : Region :=
  { r with accepted := wrapAdd32 r.accepted 1, retired := wrapAdd32 r.retired 1 }

/-- An item joins as the newest (R130 step 4). -/
def Region.join (h : Held) (r : Region) : Region :=
  { r with items := r.items ++ [h], accepted := wrapAdd32 r.accepted 1 }

/-- A full region turns the newcomer away (R132). -/
def Region.refuseItem (r : Region) : Region :=
  { r with accepted := wrapAdd32 r.accepted 1, discarded := wrapAdd32 r.discarded 1 }

/-- The newcomer displaces the oldest item that is not in flight (R133). -/
def Region.displace (inFlight : Nat → Bool) (h : Held) (r : Region) : Region :=
  { r with items := r.items.eraseP (fun x => !inFlight x.serial) ++ [h], accepted := wrapAdd32 r.accepted 1,
           discarded := wrapAdd32 r.discarded 1 }

/-- An item meets its region full (R132, R133); REGION_FULL names the source drop, or none for the pass region. -/
def State.meetFull (s : State) (r : RegionId) (source : Option DropId) (h : Held) : State :=
  let s' :=
    if (s.region r).policy == .replaceOldest && (s.region r).items.any (fun x => !s.inFlight x.serial) then
      (s.updRegion r (Region.displace s.inFlight h)).fillNamed h.drops
    else s.updRegion r Region.refuseItem
  s'.latch .regionFull source

/-- An item meets an unassigned region: the source drop's unassigned-discard counter, or the pass-unassigned
counter for a pass copy (R130 step 1). -/
def State.countUnassigned (s : State) : Option DropId → State
  | some d => s.updCounters d (fun c => { c with unassignedDiscards := satInc16 c.unassignedDiscards })
  | none => s.setStore { s.store with passUnassigned := satInc16 s.store.passUnassigned }

/-- An item is handed to the store, its serial drawn and its delivery set formed (R130). -/
def State.admitItem (s : State) (r : RegionId) (source : Option DropId) (h : Held) : State :=
  if !(s.region r).assigned then s.countUnassigned source
  else if !h.owed then s.updRegion r Region.retireAtOnce
  else if (s.region r).items.length < (s.region r).size then (s.updRegion r (Region.join h)).fillNamed h.drops
  else s.meetFull r source h

/-- A local item of drop `d` is created: its serial drawn, its set formed by the route table as it stands, and
the item admitted to the drop's region (R129, R130, R131). -/
def State.createItem (s : State) (d : DropId) (item : ItemBody) : State :=
  let s := s.drawSerial
  let result := s.lookup item.routeKind s.sourceStation
  s.admitItem (dropRegion d) (some d) { serial := s.store.serial, item := item, up := result.1, drops := result.2 }

/-- A pass copy is created for the drops of a lookup's result (R140). -/
def State.createPassCopy (s : State) (item : ItemBody) (drops : DropMask) : State :=
  let s := s.drawSerial
  s.admitItem passRegion none { serial := s.store.serial, item := item, up := false, drops := drops }

/-! ## ITEM_STALE -/

/-- ITEM_STALE (R129): every held item whose age has reached 2^31 is discarded. Each draw does this itself, as
R129 says ("is discarded at that draw"), so no stale item outlasts a draw (notes/assumptions/11.md). -/
def execItemStale (s : State) : Answer := whenRunning s State.discardStale

end Sys2Proof.Machine
end

