-- ==== Sys2Proof/Machine/Takes.lean ====
section
/-! DEFINITION. The take table (section 6.5): opening and closing takes, synthesized CUTs, the guard
announcement, and the rebase at a jam. -/

namespace Sys2Proof.Machine

/-- The drop's take is ROLLING. -/
def State.rolling (s : State) (d : DropId) : Bool := (s.drop d).take.state == .rolling

/-- The number of ROLLING takes, 0 to 8 (R120). -/
def State.rollingCount (s : State) : Nat := (allDrops.filter s.rolling).length

/-- The take table's announcement to the tracker: the guard flag is set while some take is ROLLING and clear
while none is (R36, R120). -/
def State.announceGuard (s : State) : State := s.setTracker { s.tracker with guardFlag := s.rollingCount != 0 }

/-- A take closes: IDLE with the reason, the guard reassessed (R116, R118). -/
def State.closeTake (s : State) (d : DropId) (reason : CloseReason) : State :=
  (s.updTake d (fun t => { t with state := .idle, lastClose := reason })).announceGuard

/-- No flag set. -/
def StampFlags.clear : StampFlags :=
  { unverified := false, preStep := false, synthetic := false, labelClamped := false, orphanCut := false,
    orphan := false, rebased := false }

/-- The synthesized CUT of a closed take (R118): its number, SYNTHETIC, and REBASED if the take was so marked. -/
def synthesizedCut (d : DropId) (t : Take) (time frame subframe : Nat) (inherited : StampFlags) : ItemBody :=
  .stamp { kind := .cut, sourceDrop := d.val, time := time, frame := frame, subframe := subframe,
           flags := { inherited with synthetic := true, rebased := t.rebased }, takeNumber := some t.number }

/-- The part closes a ROLLING take and makes a synthesized CUT at the current house time, its frame and subframe
those of the forward conversion under the given profile and anchor, in force before any apply of the same event
(R118: LOST, REPROFILE and drop reset). -/
def State.closeWithCut (s : State) (d : DropId) (reason : CloseReason) (p : Profile) (anchor : Int) : State :=
  let t := forward p anchor s.clock.time
  (s.closeTake d reason).createItem d
    (synthesizedCut d (s.drop d).take s.clock.time (frameOf p t) (subframeOf p t) StampFlags.clear)

/-- The take number a ROLL opens: its own if present, otherwise the counter plus one, 65,535 giving 1 (R115). -/
def Take.nextNumber (t : Take) (device : Option Nat) : Nat :=
  match device with
  | some n => n
  | none => if t.counter ≥ 65535 then 1 else t.counter + 1

/-- A take opens (R115): the roll time is H_s, bounded by the house time at completion. -/
def Take.opened (t : Take) (device : Option Nat) (rollTime serial : Nat) : Take :=
  { t with state := .rolling, number := t.nextNumber device, counter := t.nextNumber device, rollTime := rollTime,
           rollSerial := serial, clapCount := 0, rebased := false }

/-- A jam's part at one take: a ROLLING take's roll time shifts, limited at 0, and it is marked REBASED (R119). -/
def Take.rebase (step : Int) (t : Take) : Take :=
  if t.state == .rolling then { t with rollTime := (max 0 ((t.rollTime : Int) + step)).toNat, rebased := true } else t

end Sys2Proof.Machine
end

