-- ==== Sys2Proof/Machine/Lines.lean ====
section
/-! DEFINITION. The drop line controllers (section 5): receive, wait and overrun, transmit, activity, dormancy
and wake, and what a profile apply, disabling and a reset do to the lines; with the meanings of the commands of
a drop's lines. -/

namespace Sys2Proof.Machine

/-! ## Shared operations on a line -/

/-- The lines are watched and received on: the drop is ACTIVE or DORMANT with line function PACKET (R81). -/
def Drop.onLine (x : Drop) : Bool := x.line.enabled && x.profile.lineFunction == .packet

/-! ## The levels of DX and DK -/

/-- What the part puts on a drop's DX: high, the bits of a packet one after the other, or such a packet held at the end of
the word in progress while a wait lasts (R81, R82, R88). -/
inductive DxDrive where
  | high
  | sending (bits : List Bool)
  | held (bits : List Bool)
  deriving DecidableEq, Repr

/-- What the part does with a drop's DK: not driven, running at the line rate, or stopped low by a wait (R81, R83, R88). -/
inductive DkDrive where
  | notDriven
  | running (rate : LineRate)
  | low
  deriving DecidableEq, Repr

/-- The words of a transmission. -/
def DropTransmission.words : DropTransmission → List Word
  | .frame words => words
  | .copy _ words => words

/-- What the part puts on DX (R81). A DISABLED drop, a drop with line function NONE and every drop during power-on reset
(R193) holds it high, as does a drop that sends nothing. -/
def Drop.dx (x : Drop) : DxDrive :=
  match x.line.transmission with
  | some t => if x.onLine then if x.line.wait then .held (lineBits t.words) else .sending (lineBits t.words) else .high
  | none => .high

/-- What the part does with DK (R81, R83, R84, R88). -/
def Drop.dk (x : Drop) : DkDrive :=
  if x.onLine && x.profile.clocking == .part then
    if x.line.wait then .low else .running x.profile.lineRate
  else .notDriven

/-- Abort a transmission in progress on DX; counted, unless by a reset (R94). -/
def Line.abort (counted : Bool) (l : Line) : Line :=
  if l.transmission.isSome then
    { l with
      transmission := none, transmitStall := 0,
      counters := if counted then { l.counters with transmitAborts := satInc16 l.counters.transmitAborts } else l.counters }
  else l

/-- A wait starts (R88). -/
def Line.startWait (l : Line) : Line :=
  { l with wait := true, counters := { l.counters with waits := satInc16 l.counters.waits } }

/-- Discard a partial packet without counting it; the shift register hunts (R98, R100). -/
def Line.clearShift (l : Line) : Line := { l with shift := .hunting, receiveStall := 0 }

/-- A packet abandoned as malformed: counted, CHECK_ERROR latched with the drop named (R85, R87). -/
def State.countMalformed (s : State) (d : DropId) : State :=
  (s.updCounters d (fun c => { c with malformed := satInc16 c.malformed })).latch .checkError (some d)

/-- What a profile apply does to the lines of a drop that stays enabled (R98). -/
def Line.applied (old new : Profile) (l : Line) : Line :=
  let changed := old.lineFunction != new.lineFunction || old.clocking != new.clocking || old.lineRate != new.lineRate
  let l := if changed then (l.abort true).clearShift else l
  let l := if old.lineFunction != new.lineFunction then { l with activity := false } else l
  let l :=
    if new.lineFunction == .none then { l with slot := none, copyQueue := [], wait := false }
    else if new.clocking == .device then { l with wait := false }
    else if changed && l.holding.isSome && !l.wait then l.startWait
    else l
  if new.frameFeed then l else { l with slot := none }

/-- A drop's lines as it becomes DISABLED (R100). R100 discards a partial packet in the shift register; that the register
hunts then, also where it was resynchronising, is the model's choice (DESIGN CHOICE: notes/assumptions/32.md). -/
def Line.disabled (l : Line) : Line :=
  let flushed := if l.holding.isSome then satInc16 l.counters.flushed else l.counters.flushed
  let l := (({ l with counters := { l.counters with flushed := flushed } }).abort true).clearShift
  { l with state := .disabled, holding := none, wait := false, slot := none, copyQueue := [] }

/-- A drop's lines emptied by a reset: its counters cleared, a transmission aborted uncounted, registers, slot and
queue emptied, a wait ended, the quiet timer 0 and the activity flag clear (R101 steps 1 to 6, R102). R101 has the shift
register hunt; that it does so at a trunk reset too, where R102 empties it, is the model's reading
(notes/assumptions/32.md). -/
def Line.emptied (l : Line) : Line :=
  { l with
    shift := .hunting, receiveStall := 0, holding := none, slot := none, copyQueue := [], transmission := none,
    transmitStall := 0, wait := false, quietTimer := 0, activity := false, counters := DropCounters.cleared }

/-- DF driven low, no pulse (R64, R100). -/
def DfLine.lowered (x : DfLine) : DfLine := { x with level := false, pulseEnd := none }

/-- The intake's packet, if it is the drop's, is discarded (R108). -/
def State.freeIntake (s : State) (d : DropId) : State :=
  match s.intake.inProcess with
  | some ip =>
    if ip.source = d then
      (s.setIntake { s.intake with inProcess := none }).updCounters d
        (fun c => { c with flushed := satInc16 c.flushed })
    else s
  | none => s

/-- A drop becomes DISABLED: its line operations end, DF goes low, a packet of it at the intake is flushed, and it
leaves every delivery set (R60 step 4, R100, R108, R138). -/
def State.disableDrop (s : State) (d : DropId) : State :=
  (((s.updLine d Line.disabled).updDf d
      (fun x => { x.lowered with waitsForBoundary := false })).freeIntake d).leaveSets d

/-- A DORMANT drop wakes: ACTIVE, quiet timer 0, the wake counted, filling resumed (R99). -/
def State.wake (s : State) (d : DropId) : State :=
  (s.updLine d (fun l =>
    { l with state := .active, activity := true, quietTimer := 0,
             counters := { l.counters with wakes := satInc16 l.counters.wakes } })).fill d

/-- A drop goes DORMANT (R97): counted, the unsent FRAME discarded, a ROLLING take closed LOST with its
synthesized CUT under the profile and anchor before any apply of the event, and TAKE_LOST latched. -/
def State.goDormant (s : State) (d : DropId) (p : Profile) (anchor : Int) : State :=
  let s := s.updLine d (fun l =>
    { l with state := .dormant, slot := none,
             counters := { l.counters with dormancies := satInc16 l.counters.dormancies } })
  if s.rolling d then (s.closeWithCut d .lost p anchor).latch .takeLost (some d) else s

/-- The quiet timer stands still: a packet of the drop is somewhere between its first bit and the end of its
intake (R96). -/
def State.stampUnderWay (s : State) (d : DropId) : Bool :=
  (s.drop d).line.holding.isSome || (s.drop d).line.shift == .receiving
    || (s.intake.inProcess.map (fun ip => ip.source)) == some d

/-- The quiet timer at step 3 of a boundary event, with the dormancy it may bring (R96, R97). -/
def State.quietCount (s : State) (d : DropId) (p : Profile) (anchor : Int) : State :=
  let x := s.drop d
  if x.line.state == .active && x.profile.lineFunction == .packet then
    if x.line.activity then s.updLine d (fun l => { l with quietTimer := 0, activity := false })
    else if s.stampUnderWay d then s
    else
      let s := s.updLine d (fun l => { l with quietTimer := satInc 255 l.quietTimer })
      if x.profile.quietLimit != 0 && x.profile.quietLimit ≤ satInc 255 x.line.quietTimer then s.goDormant d p anchor
      else s
  else s

/-- The composed FRAME is placed in the frame slot, replacing an unsent one with SKIPPED, or discarded
(R90, R91). -/
def State.placeFrame (s : State) (d : DropId) (f : Frame) : State :=
  let x := s.drop d
  if x.profile.frameFeed && x.line.state == .active && x.profile.lineFunction == .packet then
    s.updLine d (fun l =>
      match l.slot with
      | some _ => { l with slot := some { f with skipped := true },
                           counters := { l.counters with skips := satInc16 l.counters.skips } }
      | none => { l with slot := some f })
  else s

/-! ## Receive -/

/-- A packet may be shifted in: the drop is on line, its shift register holds part of a packet, and no wait has
stopped DK (R85, R88). -/
def Drop.shiftingIn (x : Drop) : Bool := x.onLine && x.line.shift == .receiving && !x.line.wait

/-- DROP_HEADER_MALFORMED (R85). -/
def State.headerMalformed (s : State) (d : DropId) (kind len : Word) : State :=
  if (s.drop d).shiftingIn && !dropHeaderOk kind len then
    (s.countMalformed d).updLine d (fun l => { l with shift := .resynchronising, receiveStall := 0 })
  else s

/-- DROP_HEADER_MALFORMED. -/
def execDropHeaderMalformed (d : DropId) (kind len : Word) (s : State) : Answer :=
  whenRunning s (fun s => s.headerMalformed d kind len)

/-- DROP_RESYNC_END (R85): the shift register hunts again. -/
def State.dropResynced (s : State) (d : DropId) : State :=
  if (s.drop d).onLine && (s.drop d).line.shift == .resynchronising then s.updLine d Line.clearShift else s

/-- DROP_RESYNC_END. -/
def execDropResyncEnd (d : DropId) (s : State) : Answer := whenRunning s (fun s => s.dropResynced d)

/-- DROP_RECEIVE_STALL (R87): after 48 epochs without a bit the partial packet is abandoned as malformed; the
shift register hunts afresh without resynchronising. -/
def State.receiveStalled (s : State) (d : DropId) : State :=
  if (s.drop d).shiftingIn && Config.stallEpochs ≤ (s.drop d).line.receiveStall then
    (s.countMalformed d).updLine d Line.clearShift
  else s

/-- DROP_RECEIVE_STALL. -/
def execDropReceiveStall (d : DropId) (s : State) : Answer := whenRunning s (fun s => s.receiveStalled d)

/-- A packet with a correct check moves into the empty holding register with its arrival record; under PART
clocking a wait starts (R88). -/
def Line.store (clocking : Clocking) (r : Received) (l : Line) : Line :=
  let l := { l with holding := some r, counters := { l.counters with received := satInc16 l.counters.received } }
  if clocking == .part then l.startWait else l

/-- The packet is complete and its check judged (R86, R88, R89). -/
def State.stampReceived (s : State) (d : DropId) (words : List Word) : State :=
  let s' := s.updLine d Line.clearShift
  if !checkCorrect words then
    (s'.updCounters d (fun c => { c with checkFailures := satInc16 c.checkFailures })).latch .checkError (some d)
  else if (s.drop d).line.holding.isSome then
    (s'.updCounters d (fun c => { c with overruns := satInc16 c.overruns })).latch .overrun (some d)
  else s'.updLine d (Line.store (s.drop d).profile.clocking
    { words := words, time := s.clock.time, stepCount := s.clock.stepCount })

/-- STAMP_PACKET_COMPLETE (R86): a packet is complete once its words are in on a part-full shift register; under
PART clocking none completes while the holding register is full (R88). -/
def State.stampPacketComplete (s : State) (d : DropId) (words : List Word) : State :=
  if (s.drop d).shiftingIn && dropComplete words
      && !((s.drop d).profile.clocking == .part && (s.drop d).line.holding.isSome) then
    s.stampReceived d words
  else s

/-- STAMP_PACKET_COMPLETE. -/
def execStampPacketComplete (d : DropId) (words : List Word) (s : State) : Answer :=
  whenRunning s (fun s => s.stampPacketComplete d words)

/-! ## Activity (R95) -/

/-- A level change is on DK. -/
def onDk : LineChange → Bool
  | .dkRise => true
  | .dkFall => true
  | _ => false

/-- What a level change is to the registers: a start bit seen by an empty, hunting shift register begins reception
(R85); a rising DK edge shifts a bit in (R84, R87); any DK edge restarts the transmit stall count (R94). -/
def Line.changed (c : LineChange) (l : Line) : Line :=
  match c with
  | .drStartBit => if l.shift == .hunting then { l with shift := .receiving, receiveStall := 0 } else l
  | .drLevel => l
  | .dkRise => { l with receiveStall := 0, transmitStall := 0 }
  | .dkFall => { l with transmitStall := 0 }

/-- DROP_ACTIVITY (R95): a level change on DR, or on DK under DEVICE clocking, sets the activity flag and wakes a
DORMANT drop. -/
def State.lineActivity (s : State) (d : DropId) (c : LineChange) : State :=
  if (s.drop d).onLine && (!onDk c || (s.drop d).profile.clocking == .device) then
    let s' := s.updLine d (fun l => { l.changed c with activity := true })
    if (s.drop d).line.state == .dormant then s'.wake d else s'
  else s

/-- DROP_ACTIVITY. -/
def execDropActivity (d : DropId) (c : LineChange) (s : State) : Answer := whenRunning s (fun s => s.lineActivity d c)

/-! ## Transmit -/

/-- The line arbiter may start a transmission (R93). -/
def Drop.mayStart (x : Drop) : Bool := x.onLine && x.line.transmission.isNone && !x.line.wait

/-- LINE_ARBITER_START (R93): the FRAME in the slot, otherwise the copy at the head of the queue, composed from its
item at that moment. -/
def State.lineStart (s : State) (d : DropId) : State :=
  if (s.drop d).mayStart then
    match (s.drop d).line.slot, (s.drop d).line.copyQueue with
    | some f, _ =>
      s.updLine d (fun l => { l with slot := none, transmission := some (.frame f.packet), transmitStall := 0 })
    | none, serial :: _ =>
      match s.findItem serial with
      | some h =>
        s.updLine d (fun l => { l with transmission := some (.copy serial (copyPacket h)), transmitStall := 0 })
      | none => s
    | none, [] => s
  else s

/-- LINE_ARBITER_START. -/
def execLineArbiterStart (d : DropId) (s : State) : Answer := whenRunning s (fun s => s.lineStart d)

/-- A copy has gone out: its entry leaves the queue, it is counted, the drop leaves the item's set, and filling is
considered (R93, R135). -/
def State.copySent (s : State) (d : DropId) (serial : Nat) : State :=
  ((s.updLine d (fun l =>
      { l with transmission := none, transmitStall := 0, copyQueue := l.copyQueue.filter (fun n => n != serial),
               counters := { l.counters with copiesSent := satInc16 l.counters.copiesSent } })).deliveredToDrop
    serial d).fill d

/-- DROP_TRANSMIT_COMPLETE (R93): the check word has gone out on DX. -/
def State.dropTransmitted (s : State) (d : DropId) : State :=
  match (s.drop d).line.transmission with
  | some (.frame _) =>
    s.updLine d (fun l =>
      { l with transmission := none, transmitStall := 0,
               counters := { l.counters with framesSent := satInc16 l.counters.framesSent } })
  | some (.copy serial _) => s.copySent d serial
  | none => s

/-- DROP_TRANSMIT_COMPLETE. -/
def execDropTransmitComplete (d : DropId) (s : State) : Answer := whenRunning s (fun s => s.dropTransmitted d)

/-- DROP_TRANSMIT_STALL (R94): under DEVICE clocking, 48 epochs without a clock edge during a transmission abort
it; an aborted copy stays at the head of its queue. -/
def State.transmitStalled (s : State) (d : DropId) : State :=
  if (s.drop d).profile.clocking == .device && (s.drop d).line.transmission.isSome
      && Config.stallEpochs ≤ (s.drop d).line.transmitStall then
    s.updLine d (Line.abort true)
  else s

/-- DROP_TRANSMIT_STALL. -/
def execDropTransmitStall (d : DropId) (s : State) : Answer := whenRunning s (fun s => s.transmitStalled d)

/-! ## The stall counts at an epoch -/

/-- A drop's stall counts at an epoch: epochs without a bit on a part-full shift register, which under PART clocking
takes bits at every epoch unless a wait holds DK (R87), and epochs without a clock edge during a transmission under
DEVICE clocking (R94). -/
def Drop.countStalls (x : Drop) : Drop :=
  { x with line := { x.line with
      receiveStall :=
        if x.line.shift == .receiving && x.profile.clocking == .device then
          satInc Config.stallEpochs x.line.receiveStall
        else if x.line.wait then x.line.receiveStall
        else 0,
      transmitStall :=
        if x.line.transmission.isSome && x.profile.clocking == .device then
          satInc Config.stallEpochs x.line.transmitStall
        else 0 } }

end Sys2Proof.Machine
end

