-- ==== Sys2Proof/Machine/Profiles.lean ====
section
/-! DEFINITION. The drop cadence units and DF lines (section 3): the applies of a pending profile and a pending
anchor, the drop boundary event, and the DF line's functions. -/

namespace Sys2Proof.Machine

/-! ## The DF line (R64 to R66) -/

/-- The word clock's level at a house time: high in the first half of a sample period of drop time (R66). -/
def wordLevel (p : Profile) (anchor : Int) (h : Nat) : Bool :=
  match p.audio.period with
  | some ps => forward p anchor h % ps < ps / 2
  | none => false

/-- The line follows the drop's word clock: the drop is enabled under WORD, and no drop reset keeps the line low
(R64, R66). -/
def Drop.followsWord (x : Drop) : Bool :=
  x.line.enabled && x.profile.dfFunction == .word && !x.df.waitsForBoundary

/-- The level of a drop's DF line at the instant of divider count `k` (R64, R66): the word clock's at each instant on a
line that follows it, and otherwise the level the line is driven at. -/
def State.dfLevel (s : State) (d : DropId) (k : DividerCount) : Bool :=
  if (s.drop d).followsWord then wordLevel (s.drop d).profile (s.drop d).cadence.anchor (s.houseTimeAt k)
  else (s.drop d).df.level

/-- The level of the drop's DF line at the instant of count `k` is kept as the level it is driven at. -/
def State.driveDf (s : State) (d : DropId) (k : DividerCount) : State :=
  s.updDf d (fun x => { x with level := s.dfLevel d k })

/-- A DF function applies (R64). HOLD keeps the level the line had; a function that was already in force goes on; under
WORD the line's level is the word clock's from now on (`State.dfLevel`). While a drop reset keeps the line low, it stays
low. -/
def DfLine.applied (old new : DfFunction) (x : DfLine) : DfLine :=
  match new with
  | .pulse => if old == .pulse then x else x.lowered
  | .word => { x with pulseEnd := none }
  | .hold => if old == .hold then x else { x with held := x.level, pulseEnd := none }
  | .low => x.lowered
  | .high => { x with level := !x.waitsForBoundary, pulseEnd := none }

/-- The DF line of a drop takes its profile's function, `old` the function in force before. -/
def State.applyDf (s : State) (d : DropId) (old : DfFunction) : State :=
  s.updDf d (DfLine.applied old (s.drop d).profile.dfFunction)

/-- The DF line as its drop is enabled from DISABLED, where it was low: HOLD holds low (R57, R64). -/
def DfLine.fromDisabled (f : DfFunction) : DfLine :=
  { level := f == .high, pulseEnd := none, held := false, waitsForBoundary := false }

/-- A boundary event's hand-over to the DF line: under PULSE with a width above 0 the line rises, its pulse end
measured from the event's boundary value (R65). A line that a drop reset had sent low follows its function again
(R64). -/
def DfLine.atBoundary (p : Profile) (boundary : Nat) (wasWaiting : Bool) (x : DfLine) : DfLine :=
  match p.dfFunction with
  | .pulse => if p.pulseWidth == 0 then x else { x with level := true, pulseEnd := some (boundary + p.pulseWidth) }
  | .word => x
  | .hold => if wasWaiting then { x with level := x.held } else x
  | .low => { x with level := false }
  | .high => { x with level := true }

/-- A jam's part at a DF line: a pulse end not yet reached shifts by the applied step (R65). -/
def DfLine.jammed (oldTime : Nat) (step : Int) (x : DfLine) : DfLine :=
  { x with pulseEnd := x.pulseEnd.map (fun e => if oldTime < e then ((e : Int) + step).toNat else e) }

/-! ## Applies (R60, R61) -/

/-- A change that R59 guards: rate, pull, offset, audio or enabled. -/
def guardedChange (x y : Profile) : Bool :=
  x.rate != y.rate || x.pull != y.pull || x.offset != y.offset || x.audio != y.audio || x.enabled != y.enabled

/-- The anchor is set to a house time, and the boundary computed from that house time with STEPPED set; a pending
anchor is then no longer pending (R57, R60, R61). -/
def Cadence.anchoredAt (c : Cadence) (p : Profile) (h : Nat) : Cadence :=
  { ({ c with anchor := (h : Int) } : Cadence).fromHouseTime p h with stepped := true, pendingAnchor := false }

/-- An anchor applies (R61). -/
def State.applyAnchor (s : State) (d : DropId) : State :=
  s.updCadence d (fun c => c.anchoredAt (s.drop d).profile s.clock.time)

/-- A pending record becomes the profile in force; where it changes a guarded field of a ROLLING take, the take
closes REPROFILE with a synthesized CUT under the profile it was recorded under (R60 steps 1 and 2). -/
def State.adoptProfile (s : State) (d : DropId) (p : Profile) : State :=
  let old := (s.drop d).profile
  let anchor := (s.drop d).cadence.anchor
  let s := (s.updProfile d (fun _ => p)).updCadence d (fun c => { c with pendingProfile := none })
  if s.rolling d && guardedChange old p then s.closeWithCut d .reprofile old anchor else s

/-- The rest of an apply of an enabled record to a running drop: anchor and boundary from the current house time,
the lines, the delivery sets on a change of role, the DF line, and filling (R60 step 3, R98, R138, R64, R134). -/
def State.settleEnabled (s : State) (d : DropId) (old p : Profile) : State :=
  let s := s.updCadence d (fun c => c.anchoredAt p s.clock.time)
  let s := s.updLine d (Line.applied old p)
  let s := if old.role == .edit && p.role != .edit then s.leaveUnqueuedSets d else s
  (s.applyDf d old.dfFunction).fill d

/-- The rest of an apply of a record that is not enabled (R60 step 4). -/
def State.settleDisabled (s : State) (d : DropId) : State :=
  (s.disableDrop d).updCadence d (fun c => { c with pendingAnchor := false })

/-- A pending profile applies (R60). -/
def State.applyProfile (s : State) (d : DropId) (p : Profile) : State :=
  let old := (s.drop d).profile
  let s := s.adoptProfile d p
  if p.enabled then s.settleEnabled d old p else s.settleDisabled d

/-- A record is loaded to a DISABLED drop and applies when it is taken (R57): an enabled one sets the anchor and the
boundary from house time, drives DF, and makes the drop ACTIVE with its quiet timer at 0 and its activity flag
clear (R100). -/
def State.loadDisabled (s : State) (d : DropId) (p : Profile) : State :=
  let s := s.updProfile d (fun _ => p)
  if p.enabled then
    let s := s.updCadence d (fun c => c.anchoredAt p s.clock.time)
    let s := s.updDf d (fun _ => DfLine.fromDisabled p.dfFunction)
    (s.updLine d (fun l => { l with state := .active, quietTimer := 0, activity := false })).fill d
  else s

/-! ## The drop boundary event (R54) -/

/-- Steps 2 to 4 of a boundary event (R54): the FRAME composed and placed, the DF line and the quiet timer, the
frame number recorded and STEPPED cleared. `n` is the frame number, `t` the drop time and `boundary` the boundary
value of the event; `p` and `anchor` are those in force before the event (R118). -/
def State.finishBoundary (s : State) (d : DropId) (n t boundary : Nat) (wasWaiting : Bool) (p : Profile)
    (anchor : Int) : State :=
  let s := s.placeFrame d (s.composeFrame d n t)
  let s := s.updDf d (DfLine.atBoundary (s.drop d).profile boundary wasWaiting)
  let s := s.quietCount d p anchor
  s.updCadence d (fun c => { c with lastFrame := n, stepped := false })

/-- The drop time of a boundary event that applies nothing: the target, at which its frame begins exactly; or, at the first
event after a jam or an apply, which carries STEPPED, the forward drop time at H, so that its sample is the one at the
event's house time (R54, R79; notes/assumptions/35.md). -/
def State.eventTime (s : State) (d : DropId) : Nat :=
  if (s.drop d).cadence.stepped then forward (s.drop d).profile (s.drop d).cadence.anchor s.clock.time
  else (s.drop d).cadence.target

/-- A line that a drop reset sent low follows its function again (R64). -/
def State.followAgain (s : State) (d : DropId) : State := s.updDf d (fun x => { x with waitsForBoundary := false })

/-- Steps 2 to 4 after an apply: the frame number and drop time are those of the forward conversion at H, and the
event's boundary value is H (R54, R65). -/
def State.finishFromHouseTime (s : State) (d : DropId) (wasWaiting : Bool) (p : Profile) (anchor : Int) : State :=
  let t := forward (s.drop d).profile (s.drop d).cadence.anchor s.clock.time
  s.finishBoundary d (frameOf (s.drop d).profile t) t s.clock.time wasWaiting p anchor

/-- A drop boundary event (R54). It is taken at an epoch, where the divider count is 0 (R1, R55), so the level that a HOLD
applied here keeps is the line's at count 0, under the old function (R64). -/
def State.boundaryEvent (s : State) (d : DropId) : State :=
  let x := s.drop d
  match x.cadence.pendingProfile with
  | some p =>
    let s := ((s.driveDf d 0).followAgain d).applyProfile d p
    if p.enabled then s.finishFromHouseTime d x.df.waitsForBoundary x.profile x.cadence.anchor else s
  | none =>
    let s := s.followAgain d
    if x.cadence.pendingAnchor then
      (s.applyAnchor d).finishFromHouseTime d x.df.waitsForBoundary x.profile x.cadence.anchor
    else
      (s.updCadence d (fun c => c.fromTarget x.profile)).finishBoundary d (frameOf x.profile x.cadence.target)
        (s.eventTime d) x.cadence.boundary x.df.waitsForBoundary x.profile x.cadence.anchor

/-- A boundary event of the drop is outstanding: house time has reached or passed B while the drop is enabled
(R53, R54). -/
def State.boundaryOutstanding (s : State) (d : DropId) : Bool :=
  (s.drop d).line.enabled && (s.drop d).cadence.boundary ≤ s.clock.time

/-- DROP_BOUNDARY_EVENT (R54). -/
def execDropBoundaryEvent (d : DropId) (s : State) : Answer :=
  whenRunning s (fun s => if s.boundaryOutstanding d then s.boundaryEvent d else s)

/-- PULSE_END (R65): house time has reached or passed the pulse end. -/
def State.endPulse (s : State) (d : DropId) : State :=
  match (s.drop d).df.pulseEnd with
  | some e => if e ≤ s.clock.time then s.updDf d DfLine.lowered else s
  | none => s

/-- PULSE_END. -/
def execPulseEnd (d : DropId) (s : State) : Answer := whenRunning s (fun s => s.endPulse d)

/-- WORD_CLOCK_EDGE (R66): at the instant of divider count `k`, the line of a drop that follows its word clock takes the
word clock's level. -/
def State.wordEdge (s : State) (d : DropId) (k : DividerCount) : State := (s.atDivider k).driveDf d k

/-- WORD_CLOCK_EDGE. -/
def execWordClockEdge (d : DropId) (k : DividerCount) (s : State) : Answer := whenRunning s (fun s => s.wordEdge d k)

end Sys2Proof.Machine
end

