-- ==== Sys2Proof/Machine/Tracker.lean ====
section
/-! DEFINITION. The reference tracker (section 2): the loop, the tracker states, the jam with its announcement,
the arrival of a TIME packet, and the missing-TIME expiry. -/

namespace Sys2Proof.Machine

/-- L_slew from the slew limit in ppm (R23). -/
def PartRecord.slewStep (p : PartRecord) : Int := (p.slewPpm * 67108864 / 1000 : Nat)

/-- The nominal interval of the house rate in use (R5). -/
def State.nominalInterval (s : State) : Nat := s.house.rate.nominalInterval

/-- N_int of a loop update at this arrival (R21). -/
def State.interval (s : State) : Nat :=
  if s.tracker.firstArrival then s.nominalInterval else max 1 (min 65535 s.tracker.missingTime)

/-- The error of an arrival: (H_m + d) − H_cap, limited to ±2^40 (R18). -/
def arrivalError (p : PartRecord) (sent captured : Nat) : Int :=
  limitAbs Config.errorLimit ((sent : Int) + p.trunkDelay - captured)

/-- q of a loop update: e × 2^24 / N_int, truncated toward zero and limited (R24 step 1). -/
def loopQuotient (e : Int) (interval : Nat) : Int :=
  limitAbs Config.qLimit ((e * Config.ticksUnit).tdiv interval)

/-- A after a loop update (R24 step 2). -/
def loopDrift (p : PartRecord) (a q : Int) : Int := limitAbs Config.cTrack (a + q.tdiv (2 ^ p.intShift : Nat))

/-- c after a loop update, from the A just written (R24 step 3). -/
def loopCorrection (p : PartRecord) (a q : Int) : Int := limitAbs Config.cTrack (a + q.tdiv (2 ^ p.propShift : Nat))

/-- The tracker writes c (R12). -/
def State.setCorrection (s : State) (c : Int) : State := s.setClock { s.clock with correction := c }

/-- A loop update (R24). -/
def State.loopUpdate (s : State) (e : Int) : State :=
  let q := loopQuotient e s.interval
  let a := loopDrift s.part s.tracker.drift q
  (s.setTracker { s.tracker with drift := a, lastInterval := s.interval }).setCorrection (loopCorrection s.part a q)

/-- A change of the tracker state with both counts at 0. -/
def State.enterState (s : State) (t : TrackerState) : State :=
  s.setTracker { s.tracker with state := t, lockCount := 0, outlierCount := 0 }

/-- LOCK_LOST, at a change out of LOCKED (R26). -/
def State.latchLockLost (s : State) (old : TrackerState) : State :=
  if old = .locked then s.latch .lockLost none else s

/-! ## The jam (R11, R34, R35) -/

/-- House time after a jam of e: H + e, or 0 if that would be below 0 (R11). -/
def jammedTime (h : Nat) (e : Int) : Nat := if (h : Int) + e < 0 then 0 else houseTimeOf ((h : Int) + e).toNat

/-- A jam's part at one drop's cadence unit and DF line (R56, R65): `step` is the applied step. The word clock moves with
drop time (R66, `State.dfLevel`). A DISABLED drop is not shifted. -/
def Drop.jammed (oldTime newTime : Nat) (step : Int) (x : Drop) : Drop :=
  if x.line.enabled then
    { x with
      cadence := { ({ x.cadence with anchor := x.cadence.anchor + step } : Cadence).fromHouseTime x.profile newTime with
                    stepped := true },
      df := x.df.jammed oldTime step }
  else x

/-- The house clock's and house cadence's part of a jam (R11, R6). -/
def State.jamClock (s : State) (e : Int) : State :=
  let h := jammedTime s.clock.time e
  (s.setClock { s.clock with time := h, fraction := 0, stepCount := (s.clock.stepCount + 1) % 65536 }).setHouse
    { s.house with boundary := s.house.rate.nextMultiple h }

/-- A jam: the tracker's part (R34) and the jam announcement in its order (R35): clock and house cadence, cadence
units, take table, and TIME_STEP latched, with LOCK_LOST if the state was LOCKED. -/
def State.jam (s : State) (e : Int) : State :=
  let old := s.clock.time
  let state := s.tracker.state
  let s := s.jamClock e
  let step : Int := (s.clock.time : Int) - old
  let s := s.updAllDrops (Drop.jammed old s.clock.time step)
  let s := s.updAllDrops (fun x => { x with take := x.take.rebase step })
  let s := s.setTracker { s.tracker with
    state := .track, lockCount := 0, outlierCount := 0, missingTime := 0, expiryDue := false, forceJam := false }
  (s.latch .timeStep none).latchLockLost state

/-! ## Disciplining arrivals (R27 to R33, R38) -/

/-- ±L_slew by the sign of e (R31, R32). -/
def State.slewBy (s : State) (e : Int) : State :=
  s.setCorrection (if 0 < e then s.part.slewStep else -s.part.slewStep)

/-- The step decision (R31); a pending FORCE_JAM has jammed before it (R38). -/
def State.stepDecision (s : State) (e : Int) : State :=
  if s.part.jamPolicy = .always || !s.tracker.guardFlag then s.jam e
  else
    (((s.enterState .slew).slewBy e).latch .slewBegin none).latchLockLost s.tracker.state

/-- A loop update that leads to TRACK with both counts at 0 (R29, R32, R33). -/
def State.loopToTrack (s : State) (e : Int) : State :=
  ((s.loopUpdate e).enterState .track).latchLockLost s.tracker.state

/-- TRACK (R28). -/
def State.arriveTrack (s : State) (e : Int) : State :=
  if e.natAbs ≤ s.part.lockWindow then
    let s := s.loopUpdate e
    let s := s.setTracker { s.tracker with lockCount := satInc 255 s.tracker.lockCount, outlierCount := 0 }
    if s.part.nLock ≤ s.tracker.lockCount then (s.setTracker { s.tracker with state := .locked }).latch .lockGained none
    else s
  else if e.natAbs ≤ s.part.stepThreshold then s.loopToTrack e
  else
    let s := s.setTracker { s.tracker with outlierCount := satInc 255 s.tracker.outlierCount, lockCount := 0 }
    if s.part.nOut ≤ s.tracker.outlierCount then s.stepDecision e else s

/-- LOCKED (R29). -/
def State.arriveLocked (s : State) (e : Int) : State :=
  if e.natAbs ≤ s.part.lockWindow then
    let s := s.loopUpdate e
    s.setTracker { s.tracker with lockCount := satInc 255 s.tracker.lockCount, outlierCount := 0 }
  else if e.natAbs ≤ s.part.stepThreshold then s.loopToTrack e
  else
    let s := s.setTracker { s.tracker with outlierCount := satInc 255 s.tracker.outlierCount }
    if s.part.nOut ≤ s.tracker.outlierCount then s.stepDecision e else s

/-- A jam that ends SLEW: c is made A first (R32, R38). -/
def State.jamFrom (s : State) (e : Int) : State :=
  if s.tracker.state = .slew then (s.setCorrection s.tracker.drift).jam e else s.jam e

/-- SLEW (R32). -/
def State.arriveSlew (s : State) (e : Int) : State :=
  if e.natAbs ≤ s.part.lockWindow then s.loopToTrack e
  else if e.natAbs ≤ s.part.stepThreshold then s.slewBy e
  else if s.part.jamPolicy = .guarded && s.tracker.guardFlag then s.slewBy e
  else s.jamFrom e

/-- FREEWHEEL (R33). -/
def State.arriveFreewheel (s : State) (e : Int) : State :=
  if e.natAbs ≤ s.part.stepThreshold then s.loopToTrack e else s.stepDecision e

/-- The state's own rule for a disciplining arrival, after a pending FORCE_JAM (R27 to R33, R38). -/
def State.arriveByState (s : State) (e : Int) : State :=
  if s.tracker.forceJam then s.jamFrom e
  else
    match s.tracker.state with
    | .acquire => s.jam e
    | .track => s.arriveTrack e
    | .locked => s.arriveLocked e
    | .slew => s.arriveSlew e
    | .freewheel => s.arriveFreewheel e

/-- A disciplining arrival: the error recorded (R18), the state's rule, then the missing-TIME timer restarted (R20) and
the first-arrival flag cleared (R21). -/
def State.discipline (s : State) (e : Int) : State :=
  let s := (s.setTracker { s.tracker with lastError := e }).arriveByState e
  s.setTracker { s.tracker with missingTime := 0, expiryDue := false, firstArrival := false }

/-! ## The missing-TIME expiry (R20, R30) -/

/-- The expiry is acted on in TRACK, LOCKED and SLEW (R20). -/
def TrackerState.actsOnExpiry : TrackerState → Bool
  | .track => true
  | .locked => true
  | .slew => true
  | .acquire => false
  | .freewheel => false

/-- The entry to FREEWHEEL: c becomes A, both counts 0, the first-arrival flag set (R30, R40). -/
def State.enterFreewheel (s : State) : State :=
  (s.setTracker { s.tracker with
    state := .freewheel, lockCount := 0, outlierCount := 0, firstArrival := true, expiryDue := false }).setCorrection
    s.tracker.drift

/-- The missing-TIME expiry (R30). -/
def State.missingTimeExpiry (s : State) : State :=
  if s.tracker.expiryDue && s.tracker.state.actsOnExpiry then
    (s.enterFreewheel.latch .refLost none).latchLockLost s.tracker.state
  else s

/-- MISSING_TIME_EXPIRY. -/
def execMissingTimeExpiry (s : State) : Answer := whenRunning s State.missingTimeExpiry

/-! ## TIME arrival (R17) -/

/-- The house rate code is handed to the house cadence; 0, 14 and 15 are not (R4). -/
def State.handRate (s : State) (code : Nat) : State :=
  match Rate.ofCode code with
  | some r => s.setHouse { s.house with pendingRate := some r }
  | none => s

/-- The upstream quality is written, unless HOLD is set; a change of it latches QUALITY_CHANGE (R17, R42). -/
def State.handQuality (s : State) (q : Quality) : State :=
  if s.tracker.hold then s
  else
    let s' := s.setTracker { s.tracker with upstream := q }
    if s.tracker.upstream = q then s' else s'.latch .qualityChange none

/-- What every valid TIME packet hands over as it is taken: its rate code, its hop and its quality (R17). -/
def State.handOverTime (s : State) (words : List Word) : State :=
  let payload := trunkPayload words
  let s := s.handRate (rateCodeOfPayload payload)
  let s := s.setClock { s.clock with receivedHop := trunkHop words, anyArrival := true }
  s.handQuality (qualityOfPayload payload)

/-- A valid TIME packet is handed to the tracker with its arrival capture (R17). It disciplines unless its quality is
UNREFERENCED or HOLD is set. Where the timer expired at an epoch taken before a disciplining arrival, FREEWHEEL comes first,
and the arrival is taken under its rule (R20). -/
def State.timeArrival (s : State) (words : List Word) (captured : Nat) : State :=
  let payload := trunkPayload words
  if qualityOfPayload payload = .unreferenced || s.tracker.hold then s.handOverTime words
  else (s.missingTimeExpiry.handOverTime words).discipline (arrivalError s.part (timeOfPayload payload) captured)

end Sys2Proof.Machine
end

