-- ==== Sys2Proof/Machine/HouseTime.lean ====
section
/-! DEFINITION. The epoch (R1), the house boundary event (R5), and what a regenerated TIME packet takes when it
enters the TIME slot (R7 to R9). -/

namespace Sys2Proof.Machine

/-- s = F + I, the sum formed at an epoch (R1). -/
def Clock.epochSum (c : Clock) : Int := (c.fraction : Int) + (Config.nominalIncrement + c.correction)

/-- The house clock at an epoch (R1). -/
def Clock.advance (c : Clock) : Clock :=
  { c with
    time := houseTimeOf ((c.time : Int) + c.epochSum / Config.ticksUnit).toNat,
    fraction := (c.epochSum % Config.ticksUnit).toNat,
    divider := 0 }

/-- The count at which the missing-TIME timer expires: L_miss × N_nom (R20). -/
def State.missingLimit (s : State) : Nat := s.part.lMiss * s.nominalInterval

/-- The missing-TIME timer at an epoch (R20): it counts while HOLD is clear, and expires at the epoch at which its
count reaches or passes the limit. An expiry of an earlier epoch that is not yet taken stays due
(notes/assumptions/9.md). -/
def State.countMissingTime (s : State) : State :=
  if s.tracker.hold then s
  else
    let n := satInc Config.missingTimeMax s.tracker.missingTime
    s.setTracker { s.tracker with missingTime := n, expiryDue := s.tracker.expiryDue || s.missingLimit ≤ n }

/-- An epoch (R1, R20, R87, R94). -/
def State.epoch (s : State) : State :=
  ((s.setClock s.clock.advance).countMissingTime).updAllDrops Drop.countStalls

/-- EPOCH. -/
def execEpoch (s : State) : Answer := whenRunning s State.epoch

/-- The hop of a regenerated TIME packet (R8). -/
def State.regeneratedHop (s : State) : Nat :=
  if s.tracker.state = .acquire || !s.clock.anyArrival then 1 else s.clock.receivedHop + 1

/-- The holdoff timer at a house boundary event (R184): while running it counts, and compares its count with the
holdoff. That the count stops at 255 while a due HOLDOFF_EXPIRY is not yet taken is the model's choice (DESIGN CHOICE:
notes/assumptions/34.md). -/
def State.countHoldoff (s : State) : State :=
  if s.reports.timerRunning then
    let n := satInc 255 s.reports.timerCount
    s.setReports { s.reports with timerCount := n, expiryDue := s.reports.expiryDue || s.part.holdoff ≤ n }
  else s

/-- A pending house rate is adopted and B_h computed anew (R5 steps 2 and 3). -/
def HouseCadence.atBoundary (c : HouseCadence) (h : Nat) : HouseCadence :=
  let r := c.pendingRate.getD c.rate
  { rate := r, pendingRate := none, boundary := r.nextMultiple h }

/-- The regenerated TIME packet enters the TIME slot, replacing an unsent one (R7). -/
def State.fillTimeSlot (s : State) : State :=
  s.setTrunk { s.trunk with
    timeSlot := some { rate := s.house.rate, hop := s.regeneratedHop, quality := s.partQuality } }

/-- A house boundary event (R5). -/
def State.houseBoundary (s : State) : State :=
  let s := s.countHoldoff
  (s.setHouse (s.house.atBoundary s.clock.time)).fillTimeSlot

/-- HOUSE_BOUNDARY_EVENT (R5): H has reached or passed B_h. -/
def execHouseBoundaryEvent (s : State) : Answer :=
  whenRunning s (fun s => if s.house.boundary ≤ s.clock.time then s.houseBoundary else s)

end Sys2Proof.Machine
end

