-- ==== Sys2Proof/Machine/Intake.lean ====
section
/-! DEFINITION. The stamp intake and the sync builder (section 6): taking a packet, the checks, the conversion
and the plausibility check, the take table's part, the items, and the sync point. -/

namespace Sys2Proof.Machine

/-! ## INTAKE_TAKE (R107) -/

/-- The drop `n` places after a drop, continuing from 7 round to 0. -/
def dropAfter (d : DropId) (n : Nat) : DropId := ⟨(d.val + n) % 8, by omega⟩

/-- The drop whose holding register is served next: the first full one from the drop after the last served
(R107). -/
def State.nextServed (s : State) : Option DropId :=
  ([1, 2, 3, 4, 5, 6, 7, 8].map (dropAfter s.intake.lastServed)).find? (fun d => (s.drop d).line.holding.isSome)

/-- The intake takes a packet (R107): the holding register is emptied and a wait ends (R88). -/
def State.intakeTake (s : State) : State :=
  match s.intake.inProcess, s.nextServed with
  | none, some d =>
    match (s.drop d).line.holding with
    | some r =>
      (s.setIntake { lastServed := d, inProcess := some { source := d, packet := r } }).updLine d
        (fun l => { l with holding := none, wait := false })
    | none => s
  | _, _ => s

/-- INTAKE_TAKE. -/
def execIntakeTake (s : State) : Answer := whenRunning s State.intakeTake

/-! ## The checks (R105, R106) -/

/-- The label of a LABEL-form stamp is in range under the drop's label base (R72). -/
def Moment.inRange (m : Moment) (base : Nat) : Bool :=
  match m with
  | .frame _ => true
  | .label l => l.inRange base

/-- The well-formed stamp of a packet, under the drop's profile in force; none for a malformed one (R105). -/
def State.readStamp (s : State) (d : DropId) (words : List Word) : Option DeviceStamp :=
  match DeviceStamp.ofPayload (dropPayload words) with
  | some x => if x.moment.inRange (s.drop d).profile.rate.base then some x else none
  | none => none

/-- The role accepts the kind (R106). -/
def Profile.accepts (p : Profile) (k : StampKind) : Bool :=
  match p.role, k with
  | .camera, .clap => p.clapCapable
  | .camera, _ => true
  | .recorder, .clap => false
  | .recorder, _ => true
  | .slate, .roll => false
  | .slate, .cut => false
  | .slate, _ => true
  | .edit, .mark _ => true
  | .edit, _ => false
  | .monitor, _ => false

/-! ## From device time to house time (R110, R111, R112) -/

/-- The device frame number of a stamp and whether its label was clamped: carried in FRAME form; in LABEL form the
day position resolved against the drop's frame at completion (R73, R74, R110). -/
def State.deviceFrame (s : State) (d : DropId) (m : Moment) : Nat × Bool :=
  let p := (s.drop d).profile
  match m with
  | .frame n => (n, false)
  | .label l =>
    let pos := l.position p.rate.base p.dropFrame
    let reference := frameOf p (forward p (s.drop d).cadence.anchor s.clock.time)
    (resolve (dayLength p.rate.base p.dropFrame) pos.1 reference, pos.2)

/-- The house time of a stamp before the plausibility check: the inverse conversion of its device time, limited to
2^64 − 1 (R110, R111). -/
def State.stampTime (s : State) (d : DropId) (frame subframe : Nat) : Nat :=
  let p := (s.drop d).profile
  min (Config.houseTimeEnd - 1) (inverse p (s.drop d).cadence.anchor (deviceTime p frame subframe))

/-- A stamp's time as the plausibility check leaves it, with the flags it raises (R112). -/
structure Judged where
  time : Nat
  unverified : Bool
  preStep : Bool
  deriving DecidableEq, Repr

/-- The plausibility check (R112). -/
def State.plausible (s : State) (d : DropId) (arrival : Received) (frame time : Nat) : Judged :=
  let p := (s.drop d).profile
  if arrival.stepCount ≠ s.clock.stepCount then { time := time, unverified := false, preStep := true }
  else if p.stampWindow < distance frame (frameOf p (forward p (s.drop d).cadence.anchor arrival.time)) then
    { time := arrival.time, unverified := true, preStep := false }
  else { time := time, unverified := false, preStep := false }

/-! ## The sync builder (R121, R122) -/

/-- The drop takes part in a clap at a house time (R121). -/
def State.participates (s : State) (time : Nat) (d : DropId) : Bool :=
  ((s.drop d).profile.role == .camera || (s.drop d).profile.role == .recorder) && s.rolling d
    && (s.drop d).take.rollTime ≤ time

/-- The participants of a clap, in increasing drop number (R121). -/
def State.participants (s : State) (time : Nat) : List DropId := allDrops.filter (s.participates time)

/-- A participant's record: its position by the forward conversion of the clap house time; a sample stamp is carried
modulo 2^48, 0 when absent (R122, section 11.2). -/
def State.participantRecord (s : State) (time : Nat) (d : DropId) : Participant :=
  let p := (s.drop d).profile
  let t := forward p (s.drop d).cadence.anchor time
  { drop := d.val, takeNumber := (s.drop d).take.number, frame := frameOf p t, subframe := subframeOf p t,
    samplePresent := (sampleOf p t).isSome, sample := (sampleOf p t).getD 0 % 2 ^ 48 }

/-- The sync point of an accepted CLAP (R121, R122): without participants SYNC_ORPHAN is latched; otherwise the sync
number and the participants' clap counts increase, and a SYNC item is built for the CLAP's region. `ds` are the
participants chosen in the same completion. -/
def State.buildSync (s : State) (d : DropId) (j : Judged) (ds : List DropId) : State :=
  if ds = [] then s.latch .syncOrphan (some d)
  else
    let number := (s.store.syncNumber + 1) % 65536
    let item : SyncItem :=
      { number := number, time := j.time, sourceDrop := d.val, unverified := j.unverified, preStep := j.preStep,
        participants := ds.map (s.participantRecord j.time) }
    let s := s.setStore { s.store with syncNumber := number }
    let s := ds.foldl (fun s x => s.updTake x (fun t => { t with clapCount := satInc 65535 t.clapCount })) s
    s.createItem d (.sync item)

/-! ## Completion (R109) -/

/-- A stamp's device frame, and what conversion and the plausibility check made of it (R109 steps 3 to 5). -/
structure Converted where
  stamp : DeviceStamp
  frame : Nat
  judged : Judged
  labelClamped : Bool
  deriving DecidableEq, Repr

/-- Steps 3 to 5 of a completion (R109). -/
def State.convert (s : State) (d : DropId) (x : DeviceStamp) (arrival : Received) : Converted :=
  let f := s.deviceFrame d x.moment
  { stamp := x, frame := f.1, judged := s.plausible d arrival f.1 (s.stampTime d f.1 x.subframe), labelClamped := f.2 }

/-- The flags a stamp's conversion raised (R110, R112). -/
def Converted.flags (c : Converted) : StampFlags :=
  { StampFlags.clear with
    unverified := c.judged.unverified, preStep := c.judged.preStep, labelClamped := c.labelClamped }

/-- The STAMP item of a converted stamp (R113). -/
def Converted.item (c : Converted) (d : DropId) (flags : StampFlags) (takeNumber : Option Nat) : ItemBody :=
  .stamp { kind := c.stamp.kind, sourceDrop := d.val, time := c.judged.time, frame := c.frame,
           subframe := c.stamp.subframe, flags := flags, takeNumber := takeNumber }

/-- The number of the drop's take if it is ROLLING, otherwise absent (R113). -/
def State.rollingNumber (s : State) (d : DropId) : Option Nat :=
  if s.rolling d then some (s.drop d).take.number else none

/-- A ROLL (R115): a ROLLING take closes SUPERSEDED with a synthesized CUT at H_s that carries the ROLL's frame and
subframe and inherits its flags (R118); then a take opens. The ROLL's item is made after, and its serial is the take's
roll serial. -/
def State.completeRoll (s : State) (d : DropId) (c : Converted) : State :=
  let old := (s.drop d).take
  let s :=
    if s.rolling d then
      (s.updTake d (fun t => { t with lastClose := .superseded })).createItem d
        (synthesizedCut d old c.judged.time c.frame c.stamp.subframe c.flags)
    else s
  let number := (s.drop d).take.nextNumber c.stamp.takeNumber
  let s := (s.updTake d (fun t =>
    t.opened c.stamp.takeNumber (min c.judged.time s.clock.time) t.rollSerial)).announceGuard
  let s := s.createItem d (c.item d c.flags (some number))
  s.updTake d (fun t => { t with rollSerial := s.store.serial })

/-- A CUT (R116): it closes a ROLLING take; on an IDLE take its item is flagged ORPHAN_CUT and carries the device's take
number if present (R113). -/
def State.completeCut (s : State) (d : DropId) (c : Converted) : State :=
  let t := (s.drop d).take
  if s.rolling d then
    (s.closeTake d .cut).createItem d (c.item d { c.flags with rebased := t.rebased } (some t.number))
  else s.createItem d (c.item d { c.flags with orphanCut := true } c.stamp.takeNumber)

/-- A CLAP (R113, R121, R122): flagged ORPHAN without participants, its item made before the SYNC item. -/
def State.completeClap (s : State) (d : DropId) (c : Converted) : State :=
  let ds := s.participants c.judged.time
  (s.createItem d (c.item d { c.flags with orphan := ds = [] } (s.rollingNumber d))).buildSync d c.judged ds

/-- Steps 6 to 8 of a completion, by kind (R109): a META writes the scene index before its item is built (R117). -/
def State.completeKind (s : State) (d : DropId) (c : Converted) : State :=
  match c.stamp.kind with
  | .roll => s.completeRoll d c
  | .cut => s.completeCut d c
  | .clap => s.completeClap d c
  | .mark _ => s.createItem d (c.item d c.flags (s.rollingNumber d))
  | .metaScene scene =>
    (s.setLabels { s.labels with sceneIndex := scene }).createItem d (c.item d c.flags (s.rollingNumber d))

/-- The completion of a packet of drop `d` (R109). -/
def State.completeStamp (s : State) (d : DropId) (r : Received) : State :=
  match s.readStamp d r.words with
  | none => s.countMalformed d
  | some x =>
    if (s.drop d).profile.accepts x.kind then s.completeKind d (s.convert d x r)
    else s.updCounters d (fun c => { c with roleRefusals := satInc16 c.roleRefusals })

/-- The packet in process completes and the intake is free (R107, R109). -/
def State.intakeComplete (s : State) : State :=
  match s.intake.inProcess with
  | some ip => (s.setIntake { s.intake with inProcess := none }).completeStamp ip.source ip.packet
  | none => s

/-- INTAKE_COMPLETE. -/
def execIntakeComplete (s : State) : Answer := whenRunning s State.intakeComplete

end Sys2Proof.Machine
end

