-- ==== Sys2Proof/Machine/Reports.lean ====
section
/-! DEFINITION. The report unit (section 10): eligibility, emission, the gate and the holdoff timer. -/

namespace Sys2Proof.Machine

/-- The causes in priority order (R180). -/
def allCauses : List Cause :=
  [.refLost, .timeStep, .slewBegin, .lockLost, .lockGained, .qualityChange, .takeLost, .regionFull, .syncOrphan,
    .overrun, .trunkOverflow, .checkError]

/-- A cause's enable: bit 11 for cause 1 down to bit 0 for cause 12 (section 11.3). -/
def PartRecord.causeEnabled (p : PartRecord) (c : Cause) : Bool := p.causeEnables.getLsbD (11 - c.index.val)

/-- The class enable of a cause's class (R182). -/
def PartRecord.classEnabled (p : PartRecord) (c : Cause) : Bool :=
  if c.isTraffic then p.trafficEnable else p.timingEnable

/-- A cause's latch. -/
def State.latchOf (s : State) (c : Cause) : Latch := s.reports.latches[c.index.val]

/-- A cause is eligible: its latch pending, its cause enable and its class enable on (R182). -/
def State.eligible (s : State) (c : Cause) : Bool :=
  (s.latchOf c).pending && s.part.causeEnabled c && s.part.classEnabled c

/-- The cause an emission chooses: the eligible cause of highest priority (R183). -/
def State.chosenCause (s : State) : Option Cause := allCauses.find? s.eligible

/-- The REPORT of a cause, from its latch as it stands (R186). -/
def State.reportFor (s : State) (c : Cause) : Report :=
  { cause := c, trackerState := s.tracker.state, quality := s.partQuality, time := s.clock.time,
    stepCount := s.clock.stepCount, drops := (s.latchOf c).drops, count := (s.latchOf c).count }

/-- The emission of a cause: the REPORT placed in the slot, the latch cleared, the gate closed, the holdoff timer
started at 0 (R183). -/
def State.emit (s : State) (c : Cause) : State :=
  (s.setTrunk { s.trunk with reportSlot := some (s.reportFor c) }).setReports
    { latches := s.reports.latches.set c.index.val Latch.clear, gateOpen := false, timerRunning := true,
      timerCount := 0, expiryDue := false }

/-- REPORT_EMISSION (R183): with the gate open, the report slot empty and a cause eligible. -/
def State.reportEmission (s : State) : State :=
  if s.reports.gateOpen && s.trunk.reportSlot.isNone then
    match s.chosenCause with
    | some c => s.emit c
    | none => s
  else s

/-- REPORT_EMISSION. -/
def execReportEmission (s : State) : Answer := whenRunning s State.reportEmission

/-- The gate opens and the holdoff timer stops (R184, R185). That the count keeps its value is the model's choice (DESIGN
CHOICE: notes/assumptions/34.md). -/
def State.openGate (s : State) : State :=
  s.setReports { s.reports with gateOpen := true, timerRunning := false, expiryDue := false }

/-- HOLDOFF_EXPIRY (R184): the count reached the holdoff at a house boundary event. -/
def State.holdoffExpiry (s : State) : State :=
  if s.reports.timerRunning && s.reports.expiryDue then s.openGate else s

/-- HOLDOFF_EXPIRY. -/
def execHoldoffExpiry (s : State) : Answer := whenRunning s State.holdoffExpiry

/-- The effect of REOPEN: a closed gate opens and the timer stops; an open gate is left as it is (R185). -/
def State.reopenGate (s : State) : State := if s.reports.gateOpen then s else s.openGate

end Sys2Proof.Machine
end

