-- ==== Sys2Proof/Machine/Records.lean ====
section
/-! DEFINITION. The records of the ten tables (section 11.3, R190): the loadable records as words and back, with the
limiting of R22, R46 and R172, and the read-only status records. -/

namespace Sys2Proof.Machine

/-! ## PART (R22, R172) -/

def JamPolicy.code : JamPolicy → Nat
  | .guarded => 0
  | .always => 1

/-- The PART record as words (section 11.3). -/
def PartRecord.words (p : PartRecord) : List Word :=
  [wordOf (place p.propShift 8 8 + place p.intShift 0 8), wordOf p.lockWindow] ++ natToWords 2 p.stepThreshold
    ++ [wordOf (place p.nLock 8 8 + place p.nOut 0 8), wordOf (place p.lMiss 8 8 + place p.holdoff 0 8),
        wordOf p.slewPpm, wordOf p.trunkDelay,
        wordOf (place p.jamPolicy.code 14 2 + flagAt p.timingEnable 13 + flagAt p.trafficEnable 12
          + place p.causeEnables.toNat 0 12)]

/-- A loaded field with the range it is limited or raised to. -/
def limited (low high n : Nat) : Nat := max low (min high n)

/-- The PART record a load writes, with every field limited or raised (R22, R172). -/
def PartRecord.ofWords (ws : List Word) : PartRecord :=
  let w := wordAt ws
  let wl := limited 1 65535 (w 1).toNat
  { propShift := limited 0 15 (bitsOf (w 0) 8 8), intShift := limited 0 15 (bitsOf (w 0) 0 8), lockWindow := wl,
    stepThreshold := max wl (natOfWords (wordsFrom ws 2 2)),
    nLock := limited 1 255 (bitsOf (w 4) 8 8), nOut := limited 1 255 (bitsOf (w 4) 0 8),
    lMiss := limited 1 255 (bitsOf (w 5) 8 8), holdoff := limited 1 255 (bitsOf (w 5) 0 8),
    slewPpm := limited 1 1000 (w 6).toNat, trunkDelay := (w 7).toNat,
    jamPolicy := if bitsOf (w 8) 14 2 == 1 then .always else .guarded,
    timingEnable := bitOf (w 8) 13, trafficEnable := bitOf (w 8) 12,
    causeEnables := BitVec.ofNat 12 (bitsOf (w 8) 0 12) }

/-- Some field of a PART record is out of range, so that the load completes with OK_CLAMPED (R22, R169). -/
def partLimits (ws : List Word) : Bool :=
  let w := wordAt ws
  15 < bitsOf (w 0) 8 8 || 15 < bitsOf (w 0) 0 8 || w 1 == 0#16
    || natOfWords (wordsFrom ws 2 2) < max 1 (w 1).toNat
    || bitsOf (w 4) 8 8 == 0 || bitsOf (w 4) 0 8 == 0 || bitsOf (w 5) 8 8 == 0 || bitsOf (w 5) 0 8 == 0
    || w 6 == 0#16 || 1000 < (w 6).toNat || 2 ≤ bitsOf (w 8) 14 2

/-! ## PROFILE (R45, R46) -/

def Role.code : Role → Nat
  | .camera => 0
  | .recorder => 1
  | .slate => 2
  | .edit => 3
  | .monitor => 4

def Role.ofCode : Nat → Role
  | 0 => .camera
  | 1 => .recorder
  | 2 => .slate
  | 3 => .edit
  | _ => .monitor

def Pull.code : Pull → Nat
  | .none => 0
  | .down => 1
  | .up => 2

def Pull.ofCode : Nat → Pull
  | 1 => .down
  | 2 => .up
  | _ => .none

def Audio.code : Audio → Nat
  | .none => 0
  | .khz48 => 1
  | .khz96 => 2
  | .khz192 => 3

def Audio.ofCode : Nat → Audio
  | 0 => .none
  | 1 => .khz48
  | 2 => .khz96
  | _ => .khz192

def DfFunction.code : DfFunction → Nat
  | .pulse => 0
  | .word => 1
  | .hold => 2
  | .low => 3
  | .high => 4

def DfFunction.ofCode : Nat → DfFunction
  | 0 => .pulse
  | 1 => .word
  | 2 => .hold
  | 4 => .high
  | _ => .low

def UserBitsSource.code : UserBitsSource → Nat
  | .fixed => 0
  | .take => 1
  | .table => 2

def UserBitsSource.ofCode : Nat → UserBitsSource
  | 1 => .take
  | 2 => .table
  | _ => .fixed

def LineRate.code : LineRate → Nat
  | .mbit1 => 0
  | .mbit2 => 1
  | .mbit4 => 2
  | .mbit8 => 3

def LineRate.ofCode : Nat → LineRate
  | 0 => .mbit1
  | 1 => .mbit2
  | 2 => .mbit4
  | _ => .mbit8

/-- The PROFILE record as words, with the two pending indications of a READ; the force bit is 0 (section 11.3). -/
def Profile.words (p : Profile) (profilePending anchorPending : Bool) : List Word :=
  [wordOf (flagAt p.enabled 15 + place p.role.code 11 3 + flagAt p.clapCapable 10 + place p.rate.code 6 4
      + flagAt p.dropFrame 5 + place p.pull.code 3 2 + place p.audio.code 1 2),
    wordOf (place p.dfFunction.code 13 3 + place p.userBitsSource.code 11 2 + flagAt p.frameFeed 10
      + flagAt (p.lineFunction == .packet) 9 + flagAt (p.clocking == .device) 8 + place p.lineRate.code 6 2
      + flagAt profilePending 1 + flagAt anchorPending 0),
    wordOf (place p.quietLimit 8 8 + place p.stampWindow 0 8)]
    ++ intToWords 2 p.offset ++ natToWords 2 p.pulseWidth ++ digitWords p.fixedBits

/-- The force flag of a PROFILE load (R45, R59). -/
def forceFlag (ws : List Word) : Bool := bitOf (wordAt ws 0) 14

/-- The profile a load's record makes, limited; none where R46 refuses it: a rate code outside 1 to 13, or WORD
without audio. -/
def Profile.ofWords (ws : List Word) : Option Profile :=
  let w := wordAt ws
  let df := DfFunction.ofCode (bitsOf (w 1) 13 3)
  let audio := Audio.ofCode (bitsOf (w 0) 1 2)
  match Rate.ofCode (bitsOf (w 0) 6 4) with
  | Option.none => Option.none
  | Option.some rate =>
    if df = .word && audio = .none then Option.none
    else Option.some
      { enabled := bitOf (w 0) 15, role := Role.ofCode (bitsOf (w 0) 11 3), clapCapable := bitOf (w 0) 10,
        rate := rate, dropFrame := bitOf (w 0) 5 && rate.dropFrameAllowed,
        pull := Pull.ofCode (bitsOf (w 0) 3 2),
        offset := max (-2147483647) (intOfWords (wordsFrom ws 3 2)), audio := audio, dfFunction := df,
        pulseWidth := min (rate.period - 1) (natOfWords (wordsFrom ws 5 2)),
        userBitsSource := UserBitsSource.ofCode (bitsOf (w 1) 11 2), fixedBits := digitsOfWords (w 7) (w 8),
        frameFeed := bitOf (w 1) 10, lineFunction := if bitOf (w 1) 9 then .packet else .none,
        clocking := if bitOf (w 1) 8 then .device else .part, lineRate := LineRate.ofCode (bitsOf (w 1) 6 2),
        quietLimit := bitsOf (w 2) 8 8, stampWindow := limited 1 255 (bitsOf (w 2) 0 8) }

/-- Some field of a PROFILE record with the given rate is brought into its range, so that the load completes with
OK_CLAMPED (R46). -/
def profileLimits (rate : Rate) (ws : List Word) : Bool :=
  let w := wordAt ws
  (bitOf (w 0) 5 && !rate.dropFrameAllowed) || bitsOf (w 0) 3 2 == 3
    || intOfWords (wordsFrom ws 3 2) == -2147483648 || 5 ≤ bitsOf (w 0) 11 3 || 5 ≤ bitsOf (w 1) 13 3
    || rate.period ≤ natOfWords (wordsFrom ws 5 2) || bitsOf (w 1) 11 2 == 3 || bitsOf (w 2) 0 8 == 0

/-! ## REGION, ROUTE and USER-BITS (R126, R158, R67) -/

def FullPolicy.code : FullPolicy → Nat
  | .refuse => 0
  | .replaceOldest => 1

def Region.words (r : Region) : List Word :=
  [wordOf (flagAt r.assigned 15 + flagAt (r.policy == .replaceOldest) 14), wordOf r.base, wordOf r.size]

/-- The record of a REGION load: assigned, base, size and policy (R127). -/
structure RegionRecord where
  assigned : Bool
  base : Nat
  size : Nat
  policy : FullPolicy
  deriving DecidableEq, Repr

def RegionRecord.ofWords (ws : List Word) : RegionRecord :=
  { assigned := bitOf (wordAt ws 0) 15, base := (wordAt ws 1).toNat, size := (wordAt ws 2).toNat,
    policy := if bitOf (wordAt ws 0) 14 then .replaceOldest else .refuse }

def Route.words (r : Route) : List Word :=
  [wordOf (flagAt r.valid 15 + place r.kind.toNat 13 2 + flagAt r.up 12), wordOf (place r.base 8 6 + place r.size 0 8),
    wordOf (place r.copyMask.toNat 0 8)]

def Route.ofWords (ws : List Word) : Route :=
  { valid := bitOf (wordAt ws 0) 15, kind := BitVec.ofNat 2 (bitsOf (wordAt ws 0) 13 2), up := bitOf (wordAt ws 0) 12,
    base := bitsOf (wordAt ws 1) 8 6, size := bitsOf (wordAt ws 1) 0 8,
    copyMask := BitVec.ofNat 8 (bitsOf (wordAt ws 2) 0 8) }

/-! ## The read-only records (R190) -/

/-- The pending house rate field: a code 1 to 13; the word that says none is open (notes/assumptions/4.md). -/
def pendingRateWord : Option Rate → Word
  | some r => wordOf r.code
  | none => Config.noPendingRateWord

/-- TRACKER STATUS, in the order of R44. -/
def State.trackerStatus (s : State) : List Word :=
  let t := s.tracker
  [wordOf t.state.code] ++ intToWords 2 t.drift ++ intToWords 2 s.clock.correction ++ intToWords 3 t.lastError
    ++ [wordOf t.lastInterval, wordOf t.lockCount, wordOf t.outlierCount] ++ natToWords 2 t.missingTime
    ++ [flagWord t.firstArrival, flagWord t.forceJam, flagWord t.hold, flagWord t.heldFromAcquire,
        flagWord t.guardFlag, wordOf t.upstream.code, wordOf t.state.grade.code, wordOf s.partQuality.code]
    ++ natToWords 4 s.clock.time ++ natToWords 2 s.clock.fraction
    ++ [wordOf s.clock.stepCount, wordOf s.clock.receivedHop, flagWord s.clock.anyArrival, wordOf s.house.rate.code,
        pendingRateWord s.house.pendingRate]
    ++ intToWords 2 s.part.slewStep

def DropState.code : DropState → Nat
  | .disabled => 0
  | .active => 1
  | .dormant => 2

def CloseReason.code : CloseReason → Nat
  | .none => 0
  | .cut => 1
  | .superseded => 2
  | .lost => 3
  | .reset => 4
  | .reprofile => 5

/-- The twelve counters of R103 in the order of its table, then the role-refusal and unassigned-discard counters. -/
def DropCounters.words (c : DropCounters) : List Word :=
  [wordOf c.received, wordOf c.checkFailures, wordOf c.malformed, wordOf c.overruns, wordOf c.waits,
    wordOf c.framesSent, wordOf c.skips, wordOf c.copiesSent, wordOf c.transmitAborts, wordOf c.dormancies,
    wordOf c.wakes, wordOf c.flushed, wordOf c.roleRefusals, wordOf c.unassignedDiscards]

/-- The copy at the head of the queue is in transmission (R103). -/
def Line.headInTransmission (l : Line) : Bool :=
  match l.transmission, l.copyQueue with
  | some (.copy serial _), head :: _ => serial == head
  | _, _ => false

/-- DROP STATUS, 38 words, in the order of R190's table. -/
def State.dropStatus (s : State) (d : DropId) : List Word :=
  let l := (s.drop d).line
  let t := (s.drop d).take
  [wordOf l.state.code, flagWord l.holding.isSome, flagWord l.wait, wordOf l.quietTimer, flagWord l.slot.isSome,
    wordOf l.copyQueue.length, flagWord l.headInTransmission]
    ++ l.counters.words
    ++ [flagWord (t.state == .rolling), wordOf t.number] ++ natToWords 4 t.rollTime ++ natToWords 2 t.rollSerial
    ++ [wordOf t.clapCount, flagWord t.rebased, wordOf t.lastClose.code, wordOf t.counter]
    ++ natToWords 3 (s.drop d).cadence.lastFrame
    ++ [wordOf s.labels.sceneIndex, wordOf (s.region (dropRegion d)).items.length]

/-- The number of a region's held items that are in flight (R145). -/
def State.inFlightCount (s : State) (r : Region) : Nat := (r.items.filter (fun h => s.inFlight h.serial)).length

/-- STORE STATUS, in the order of R145. The assigned state is read as a flag, 1 when assigned: R190 codes a state by its
place in the owning rule's list, and R126 lists "yes or no" (DESIGN CHOICE: notes/assumptions/33.md). -/
def State.storeStatus (s : State) (r : RegionId) : List Word :=
  let x := s.region r
  [flagWord x.assigned, wordOf x.base, wordOf x.size, wordOf x.policy.code, wordOf x.items.length]
    ++ natToWords 2 x.accepted ++ natToWords 2 x.retired ++ natToWords 2 x.discarded ++ [wordOf (s.inFlightCount x)]
    ++ natToWords 2 s.store.serial ++ [wordOf s.heldItems.length, wordOf s.store.passUnassigned]

def SideATransmission.code : SideATransmission → Nat
  | .reply _ => 0
  | .report _ => 1
  | .upFifo _ => 2
  | .item _ _ => 3

def SideBTransmission.code : SideBTransmission → Nat
  | .time _ => 0
  | .reply _ => 1
  | .downFifo _ => 2

def Receiver.code : Receiver → Nat
  | .hunting => 0
  | .receiving => 1
  | .resynchronising => 2

/-- TRUNK STATUS, in the order of R163 and R190: each counter for side A and then for side B. -/
def State.trunkStatus (s : State) : List Word :=
  let t := s.trunk
  let a := t.sideA.counters
  let b := t.sideB.counters
  [wordOf a.received, wordOf b.received, wordOf a.checkFailures, wordOf b.checkFailures, wordOf a.malformed,
    wordOf b.malformed, wordOf a.misdirected, wordOf b.misdirected, wordOf a.hopLimit, wordOf b.filtered,
    wordOf a.transmitted, wordOf b.transmitted, wordOf t.upOverflow, wordOf t.downOverflow, wordOf s.mgmt.discards,
    wordOf t.upFifo.length, wordOf t.downFifo.length, wordOf t.sideA.replies.length, wordOf t.sideB.replies.length,
    flagWord t.reportSlot.isSome, flagWord t.timeSlot.isSome,
    flagWord t.transmissionA.isSome, flagWord t.transmissionB.isSome,
    wordOf ((t.transmissionA.map SideATransmission.code).getD 0),
    wordOf ((t.transmissionB.map SideBTransmission.code).getD 0),
    wordOf t.sideA.receiver.condition.code, wordOf t.sideB.receiver.condition.code]

/-- IDENT (R173, R190). -/
def State.ident (s : State) : List Word :=
  [wordOf Config.partCode, wordOf s.trunk.station.toNat] ++ intToWords 2 s.trim.value ++ [flagWord s.trim.write.isSome]

end Sys2Proof.Machine
end

