-- ==== Sys2Proof/Machine/Trunk.lean ====
section
/-! DEFINITION. The trunk ports (section 8): reception, classification, the FIFOs, foreign items, and the two
transmit arbiters. -/

namespace Sys2Proof.Machine

/-! ## Receivers (R146) -/

/-- A receiver's condition changes. -/
def State.setReceiver (s : State) (side : Side) (c : Receiver) : State :=
  s.updPort side (fun p => { p with receiver := { p.receiver with condition := c } })

/-- TRUNK_START_BIT (R146): a hunting receiver becomes receiving, and the house time at that instant is the packet's
arrival capture. -/
def State.trunkStartBit (s : State) (side : Side) (k : DividerCount) : State :=
  let s := s.atDivider k
  if (s.port side).receiver.condition = .hunting then
    s.updPort side (fun p => { p with receiver := { condition := .receiving, capture := s.houseTimeAt k } })
  else s

/-- TRUNK_START_BIT. -/
def execTrunkStartBit (side : Side) (k : DividerCount) (s : State) : Answer :=
  whenRunning s (fun s => s.trunkStartBit side k)

/-- TRUNK_LOST_SIGNAL (R146): the partial packet is abandoned as malformed and the receiver resynchronises. -/
def State.trunkLostSignal (s : State) (side : Side) : State :=
  if (s.port side).receiver.condition = .receiving then
    ((s.setReceiver side .resynchronising).updSideCounters side
      (fun c => { c with malformed := satInc16 c.malformed })).latch .checkError none
  else s

/-- TRUNK_LOST_SIGNAL. -/
def execTrunkLostSignal (side : Side) (s : State) : Answer := whenRunning s (fun s => s.trunkLostSignal side)

/-- TRUNK_RESYNC_END (R146): a resynchronising receiver hunts. -/
def State.trunkResynced (s : State) (side : Side) : State :=
  if (s.port side).receiver.condition = .resynchronising then s.setReceiver side .hunting else s

/-- TRUNK_RESYNC_END. -/
def execTrunkResyncEnd (side : Side) (s : State) : Answer := whenRunning s (fun s => s.trunkResynced side)

/-! ## FIFOs (R152) -/

/-- A packet arrives for the up FIFO: at the tail, or discarded with TRUNK_OVERFLOW when it is full (R152). -/
def State.enterUp (s : State) (words : List Word) : State :=
  if s.trunk.upFifo.length < Config.fifoPlaces then s.setTrunk { s.trunk with upFifo := s.trunk.upFifo ++ [words] }
  else (s.setTrunk { s.trunk with upOverflow := satInc16 s.trunk.upOverflow }).latch .trunkOverflow none

/-- A packet arrives for the down FIFO (R152). -/
def State.enterDown (s : State) (words : List Word) : State :=
  if s.trunk.downFifo.length < Config.fifoPlaces then
    s.setTrunk { s.trunk with downFifo := s.trunk.downFifo ++ [words] }
  else (s.setTrunk { s.trunk with downOverflow := satInc16 s.trunk.downOverflow }).latch .trunkOverflow none

/-- The FIFO a packet received on a side travels on through: down from side A, up from side B. -/
def State.enterFifo (s : State) (side : Side) (words : List Word) : State :=
  match side with
  | .a => s.enterDown words
  | .b => s.enterUp words

/-! ## Classification (R148, R149, R150, R160) -/

/-- A MGMT packet is handed to the management queue, or discarded and counted when it holds four (R165). -/
def State.queueRequest (s : State) (side : Side) (words : List Word) : State :=
  if s.mgmt.queue.length < Config.queuePlaces then
    s.setMgmt { s.mgmt with queue := s.mgmt.queue ++ [{ side := side, words := words }] }
  else s.setMgmt { s.mgmt with discards := satInc16 s.mgmt.discards }

/-- A well-formed MGMT packet, by its destination station (R150). -/
def State.mgmtArrival (s : State) (side : Side) (words : List Word) : State :=
  if trunkDest words = 0 then
    let s := s.queueRequest side words
    if side = .a then s.enterDown words else s
  else if s.addressed && trunkDest words == s.trunk.station.toNat then s.queueRequest side words
  else s.enterFifo side words

/-- A packet of a kind that may not arrive on its side (R148, R149). -/
def State.misdirected (s : State) (side : Side) : State :=
  s.updSideCounters side (fun c => { c with misdirected := satInc16 c.misdirected })

/-- A foreign STAMP or SYNC received on side B, by one lookup with its kind and source station (R160): the up FIFO, a
pass copy, both, or filtered. `item` is its payload as an item. -/
def State.foreignArrival (s : State) (words : List Word) (k : RouteKind) (item : Option ItemBody) : State :=
  let result := s.lookup k (trunkSource words)
  if !result.1 && result.2 == 0#8 then
    s.updSideCounters .b (fun c => { c with filtered := satInc16 c.filtered })
  else
    let s := if result.1 then s.enterUp words else s
    match item with
    | some i => if result.2 != 0#8 then s.createPassCopy i result.2 else s
    | none => s

/-- A TIME packet on side A (R17, R147): with hop 15 it is discarded and counted; otherwise it is a valid arrival. -/
def State.timePacketOnA (s : State) (words : List Word) (captured : Nat) : State :=
  if trunkHop words = 15 then s.updSideCounters .a (fun c => { c with hopLimit := satInc16 c.hopLimit })
  else s.timeArrival words captured

/-- A well-formed packet is handed on by its side and kind (R148, R149). -/
def State.classify (s : State) (side : Side) (words : List Word) (captured : Nat) : State :=
  match side, trunkKind words with
  | .a, some .time => s.timePacketOnA words captured
  | .a, some .mgmt => s.mgmtArrival .a words
  | .a, some .general => s.enterDown words
  | .a, _ => s.misdirected .a
  | .b, some .stamp => s.foreignArrival words .stamp ((StampItem.ofPayload (trunkPayload words)).map .stamp)
  | .b, some .sync => s.foreignArrival words .sync (some (.sync (SyncItem.ofPayload (trunkPayload words))))
  | .b, some .reply => s.enterUp words
  | .b, some .report => s.enterUp words
  | .b, some .general => s.enterUp words
  | .b, some .mgmt => s.mgmtArrival .b words
  | .b, _ => s.misdirected .b

/-- A packet complete on a receiving side is judged (R147): the check, then the header, then classified and
counted as received. -/
def State.judgePacket (s : State) (side : Side) (words : List Word) : State :=
  if !checkCorrect words then
    ((s.setReceiver side .resynchronising).updSideCounters side
      (fun c => { c with checkFailures := satInc16 c.checkFailures })).latch .checkError none
  else if !trunkHeaderOk words then
    ((s.setReceiver side .hunting).updSideCounters side
      (fun c => { c with malformed := satInc16 c.malformed })).latch .checkError none
  else
    ((s.setReceiver side .hunting).updSideCounters side
      (fun c => { c with received := satInc16 c.received })).classify side words (s.port side).receiver.capture

/-- TRUNK_PACKET_COMPLETE (R147): a packet completes on a receiving receiver when as many words are in as its header
announces. -/
def State.trunkPacketComplete (s : State) (side : Side) (words : List Word) : State :=
  if (s.port side).receiver.condition = .receiving && trunkComplete words then s.judgePacket side words else s

/-- TRUNK_PACKET_COMPLETE. -/
def execTrunkPacketComplete (side : Side) (words : List Word) (s : State) : Answer :=
  whenRunning s (fun s => s.trunkPacketComplete side words)

/-! ## Side A (R156, R136) -/

/-- The local item the store offers side A: the oldest held item naming UP that is not in transmission there
(R136). -/
def State.offeredItem (s : State) : Option Held := s.oldest (fun h => h.up && !s.sendingOnA h.serial)

/-- Side A starts a local item: its packet is composed from the item as it then stands (R136, R156). -/
def State.startItem (s : State) : State :=
  match s.offeredItem with
  | some h => s.setTrunk { s.trunk with transmissionA := some (.item h.serial (s.itemPacket h)) }
  | none => s

/-- Side A starts the first of its sources that holds a packet: the reply queue, the report slot, the up FIFO, the
offered local item (R156). -/
def State.startOnA (s : State) : State :=
  match s.trunk.sideA.replies, s.trunk.reportSlot, s.trunk.upFifo with
  | r :: rest, _, _ =>
    s.setTrunk { s.trunk with
      sideA := { s.trunk.sideA with replies := rest }, transmissionA := some (.reply r) }
  | [], some r, _ =>
    s.setTrunk { s.trunk with reportSlot := none, transmissionA := some (.report (s.reportPacket r)) }
  | [], none, w :: rest => s.setTrunk { s.trunk with upFifo := rest, transmissionA := some (.upFifo w) }
  | [], none, [] => s.startItem

/-- SIDE_A_TRANSMIT_START (R156). -/
def execSideATransmitStart (s : State) : Answer :=
  whenRunning s (fun s => if s.trunk.transmissionA.isNone then s.startOnA else s)

/-- A check word has gone out on a side: its transmitted counter increases (R156, R157). -/
def State.countTransmitted (s : State) (side : Side) : State :=
  s.updSideCounters side (fun c => { c with transmitted := satInc16 c.transmitted })

/-- SIDE_A_TRANSMIT_COMPLETE (R136, R156): for a local item UP leaves its set and it may retire. -/
def State.sideATransmitted (s : State) : State :=
  match s.trunk.transmissionA with
  | none => s
  | some t =>
    let s := (s.setTrunk { s.trunk with transmissionA := none }).countTransmitted .a
    match t with
    | .item serial _ => s.deliveredUp serial
    | _ => s

/-- SIDE_A_TRANSMIT_COMPLETE. -/
def execSideATransmitComplete (s : State) : Answer := whenRunning s State.sideATransmitted

/-! ## Side B (R157) -/

/-- Side B starts the first of its sources that holds a packet: the TIME slot, with H_m taken at this instant, the
reply queue, the down FIFO (R157, R7). -/
def State.startOnB (s : State) (k : DividerCount) : State :=
  match s.trunk.timeSlot, s.trunk.sideB.replies, s.trunk.downFifo with
  | some t, _, _ =>
    s.setTrunk { s.trunk with timeSlot := none, transmissionB := some (.time (s.timePacket t k)) }
  | none, r :: rest, _ =>
    s.setTrunk { s.trunk with
      sideB := { s.trunk.sideB with replies := rest }, transmissionB := some (.reply r) }
  | none, [], w :: rest => s.setTrunk { s.trunk with downFifo := rest, transmissionB := some (.downFifo w) }
  | none, [], [] => s

/-- SIDE_B_TRANSMIT_START (R157). -/
def State.sideBStart (s : State) (k : DividerCount) : State :=
  let s := s.atDivider k
  if s.trunk.transmissionB.isNone then s.startOnB k else s

/-- SIDE_B_TRANSMIT_START. -/
def execSideBTransmitStart (k : DividerCount) (s : State) : Answer := whenRunning s (fun s => s.sideBStart k)

/-- SIDE_B_TRANSMIT_COMPLETE (R157). -/
def State.sideBTransmitted (s : State) : State :=
  if s.trunk.transmissionB.isSome then
    (s.setTrunk { s.trunk with transmissionB := none }).countTransmitted .b
  else s

/-- SIDE_B_TRANSMIT_COMPLETE. -/
def execSideBTransmitComplete (s : State) : Answer := whenRunning s State.sideBTransmitted

/-! ## What the ports put on their pairs (R146, R193) -/

/-- The words of a transmission on side A. -/
def SideATransmission.words : SideATransmission → List Word
  | .reply words => words
  | .report words => words
  | .upFifo words => words
  | .item _ words => words

/-- The words of a transmission on side B. -/
def SideBTransmission.words : SideBTransmission → List Word
  | .time words => words
  | .reply words => words
  | .downFifo words => words

/-- What a port puts on its transmit pair: idle, or the bits of a packet. -/
inductive TrunkDrive where
  | idle
  | sending (bits : List TrunkBit)
  deriving DecidableEq, Repr

/-- The words in transmission on a side. -/
def Trunk.sendingWords (t : Trunk) (side : Side) : Option (List Word) :=
  match side with
  | .a => t.transmissionA.map SideATransmission.words
  | .b => t.transmissionB.map SideBTransmission.words

/-- What the part puts on a side's transmit pair (R146): a packet in transmission, and idle between packets and throughout
power-on reset (R193). -/
def State.trunkDrive (s : State) (side : Side) : TrunkDrive :=
  if s.inReset then .idle
  else
    match s.trunk.sendingWords side with
    | some words => .sending (trunkBits words)
    | none => .idle

end Sys2Proof.Machine
end

