-- ==== Sys2Proof/Machine/Resets.lean ====
section
/-! DEFINITION. Power-on (R193), and the effects of the trunk reset (R176) and the drop reset (R177). The two resets
ordered by control are taken by the management unit. -/

namespace Sys2Proof.Machine

/-! ## Power-on (R193) -/

/-- POWER_ON (R193): every state at its power-on value, the lines at their reset levels, a trim write in flight
abandoned with the stored value kept (R13, R16). Taken in whatever condition the part is in. -/
def State.powerOn (s : State) : State := { State.inPowerOnReset s.trim.value with pending := s.pending }

/-- POWER_ON. -/
def execPowerOn (s : State) : Answer := .next s.powerOn

/-- POWER_ON_RESET_END (R193): A and c take the trim value limited to ±C_track (R14), the station is latched from the
pins (R161), and the epoch divider starts from 0. -/
def State.endPowerOnReset (s : State) (stn : BitVec 6) : State :=
  let a := limitAbs Config.cTrack s.trim.value
  { s with
    inReset := false,
    clock := { s.clock with correction := a, divider := 0 },
    tracker := { s.tracker with drift := a },
    trunk := { s.trunk with station := stn } }

/-- POWER_ON_RESET_END: it ends a power-on reset. -/
def execPowerOnResetEnd (stn : BitVec 6) (s : State) : Answer :=
  .next (if s.inReset then s.endPowerOnReset stn else s)

/-! ## What both resets share -/

/-- The drop state a reset leaves, by the profile in force after its apply (R100). -/
def State.settleState (s : State) (d : DropId) : State :=
  s.updDrop d (fun x => { x with line := { x.line with state := if x.profile.enabled then .active else .disabled } })

/-! ## Trunk reset (R176) -/

/-- A take at a trunk reset: ROLLING closes RESET without a synthesized CUT (R114, R118). -/
def Take.resetByTrunk (t : Take) : Take :=
  if t.state == .rolling then { t with state := .idle, lastClose := .reset } else t

/-- Takes and lines of a drop at a trunk reset (R114, R102). -/
def Drop.resetByTrunk (x : Drop) : Drop := { x with take := x.take.resetByTrunk, line := x.line.emptied }

/-- A region at a trunk reset: emptied, its counters 0 (R143). -/
def Region.resetByTrunk (r : Region) : Region := { r with items := [], accepted := 0, retired := 0, discarded := 0 }

/-- A port at a trunk reset: its reply queue emptied, its counters 0; its receiver goes on (R162). -/
def Port.resetByTrunk (p : Port) : Port := { p with replies := [], counters := SideCounters.cleared }

/-- The ports at a trunk reset: FIFOs and slots emptied, transmissions in progress going on, routes and station kept
(R162). -/
def Trunk.resetByTrunk (t : Trunk) : Trunk :=
  { t with sideA := t.sideA.resetByTrunk, sideB := t.sideB.resetByTrunk, upFifo := [], downFifo := [],
           reportSlot := none, timeSlot := none, upOverflow := 0, downOverflow := 0 }

/-- The tracker at a trunk reset: A is kept, and the guard flag is the take table's to announce (R43). -/
def Tracker.resetByTrunk (t : Tracker) : Tracker :=
  { Tracker.atPowerOn with drift := t.drift, guardFlag := t.guardFlag }

/-- Takes, lines and the guard lift at a trunk reset. -/
def State.resetDrops (s : State) : State := (s.updAllDrops Drop.resetByTrunk).announceGuard

/-- The other blocks at a trunk reset: clock and house cadence, tracker, intake, label unit, store, ports, report
unit and management unit (R176). -/
def State.resetBlocks (s : State) : State :=
  let s := s.setClock { s.clock with correction := s.tracker.drift }
  let s := s.setHouse { s.house with pendingRate := none }
  let s := s.setTracker s.tracker.resetByTrunk
  let s := s.setIntake { lastServed := 7, inProcess := none }
  let s := s.setLabels { s.labels with sceneIndex := 0 }
  let s := s.setStore { s.store with regions := vmap Region.resetByTrunk s.store.regions, passUnassigned := 0 }
  let s := s.setTrunk s.trunk.resetByTrunk
  let s := s.setReports ReportUnit.atPowerOn
  s.setMgmt { s.mgmt with queue := [], discards := 0 }

/-- The divider count at the instant of a trunk reset: the row does not carry it, so it is free
(notes/assumptions/14.md). -/
def State.resetInstant (s : State) : DividerCount := Config.resetInstant s.clock.time

/-- A drop's pending profile or anchor applies at once at a trunk reset, and its drop state follows (R62, R102). A HOLD
applied here keeps the level the line had at that instant (R64). -/
def State.applyAtTrunkReset (s : State) (d : DropId) : State :=
  let s :=
    match (s.drop d).cadence.pendingProfile with
    | some p => (s.driveDf d s.resetInstant).applyProfile d p
    | none => if (s.drop d).cadence.pendingAnchor then s.applyAnchor d else s
  s.settleState d

/-- The trunk reset (R176): takes close and lines are emptied before pending profiles apply. -/
def State.trunkReset (s : State) : State :=
  allDrops.foldl (fun s d => s.applyAtTrunkReset d) s.resetDrops.resetBlocks

/-! ## Drop reset (R177) -/

/-- A drop's lines at its drop reset: emptied, a packet in the holding register counted as flushed after the counters
are cleared (R101). -/
def Line.resetByDrop (l : Line) : Line :=
  { l.emptied with
    counters := { DropCounters.cleared with flushed := if l.holding.isSome then 1 else 0 } }

/-- The DF line at a drop reset: low, and following its function again from the next boundary event of a drop that has
one (R64). -/
def DfLine.resetByDrop (enabled : Bool) (x : DfLine) : DfLine := { x.lowered with waitsForBoundary := enabled }

/-- The drop's lines, its packet at the intake, its region and its place in the delivery sets (R101, R108, R142). -/
def State.emptyDrop (s : State) (d : DropId) : State :=
  let s := s.updDrop d (fun x =>
    { x with df := x.df.resetByDrop x.line.enabled, line := x.line.resetByDrop })
  let s := s.freeIntake d
  (s.discardItems (s.region (dropRegion d)).items).leaveSets d

/-- A ROLLING take closes RESET at a drop reset, with its synthesized CUT (R118, R142). -/
def State.closeAtDropReset (s : State) (d : DropId) : State :=
  if s.rolling d then s.closeWithCut d .reset (s.drop d).profile (s.drop d).cadence.anchor else s

/-- A pending profile applies at a drop reset; a pending anchor is discarded (R62). -/
def State.applyAtDropReset (s : State) (d : DropId) : State :=
  let s := s.updCadence d (fun c => { c with pendingAnchor := false })
  match (s.drop d).cadence.pendingProfile with
  | some p => s.applyProfile d p
  | none => s

/-- The drop reset of drop `d` (R177). -/
def State.dropReset (s : State) (d : DropId) : State :=
  (((s.emptyDrop d).closeAtDropReset d).applyAtDropReset d).settleState d

end Sys2Proof.Machine
end

