-- ==== Sys2Proof/Machine/Management.lean ====
section
/-! DEFINITION. The management unit (section 9): which request stands at the head of its queue, what taking it does,
and the replies; with the meanings of the LOAD, READ and CONTROL rows, each of which is the unit's take of such a
request. -/

namespace Sys2Proof.Machine

/-! ## Requests (R167, R171, R175, section 11.2) -/

/-- The ten tables (R171). -/
inductive Table where
  | part
  | profile
  | region
  | route
  | userBits
  | trackerStatus
  | dropStatus
  | storeStatus
  | trunkStatus
  | ident
  deriving DecidableEq, Repr

def Table.ofCode : Nat → Option Table
  | 1 => some .part
  | 2 => some .profile
  | 3 => some .region
  | 4 => some .route
  | 5 => some .userBits
  | 6 => some .trackerStatus
  | 7 => some .dropStatus
  | 8 => some .storeStatus
  | 9 => some .trunkStatus
  | 10 => some .ident
  | _ => none

/-- How many indexes a table has (R171). -/
def Table.indexes : Table → Nat
  | .part => 1
  | .profile => 8
  | .region => 9
  | .route => 32
  | .userBits => 64
  | .trackerStatus => 1
  | .dropStatus => 8
  | .storeStatus => 9
  | .trunkStatus => 1
  | .ident => 1

/-- The words of a loadable table's record; none for a read-only table (R167, section 11.3). -/
def Table.recordWords : Table → Option Nat
  | .part => some 9
  | .profile => some 9
  | .region => some 3
  | .route => some 3
  | .userBits => some 2
  | .trackerStatus => none
  | .dropStatus => none
  | .storeStatus => none
  | .trunkStatus => none
  | .ident => none

/-- The eight controls (R175). -/
inductive Control where
  | reopen
  | trunkReset
  | dropReset
  | anchor
  | forceJam
  | hold
  | resume
  | storeTrim
  deriving DecidableEq, Repr

def Control.ofCode : Nat → Option Control
  | 1 => some .reopen
  | 2 => some .trunkReset
  | 3 => some .dropReset
  | 4 => some .anchor
  | 5 => some .forceJam
  | 6 => some .hold
  | 7 => some .resume
  | 8 => some .storeTrim
  | _ => none

/-- What a request asks for, as steps 1 to 3 of R167 find it. -/
inductive RequestKind where
  | load (t : Table)
  | read (t : Table)
  | control (c : Control)
  | unknown
  deriving DecidableEq, Repr

/-- The kind of a request by its request type and its table or command (R167 steps 1 to 3). -/
def requestKind (typeCode code : Nat) : RequestKind :=
  match typeCode with
  | 1 =>
    match Table.ofCode code with
    | some t => if t.recordWords.isSome then .load t else .unknown
    | none => .unknown
  | 2 =>
    match Table.ofCode code with
    | some t => .read t
    | none => .unknown
  | 3 =>
    match Control.ofCode code with
    | some c => .control c
    | none => .unknown
  | _ => .unknown

def Request.payload (r : Request) : List Word := trunkPayload r.words

/-- The kind of a request in the queue. -/
def Request.kind (r : Request) : RequestKind :=
  requestKind (bitsOf (wordAt r.payload 0) 12 4) (bitsOf (wordAt r.payload 0) 4 8)

/-- The index of a LOAD or READ, the argument of a CONTROL. -/
def Request.index (r : Request) : Nat := (wordAt r.payload 1).toNat

/-- The record of a LOAD. -/
def Request.record (r : Request) : List Word := r.payload.drop 2

/-- A broadcast, which is not answered (R179). -/
def Request.broadcast (r : Request) : Bool := trunkDest r.words == 0

/-- What the reply to a request repeats of it, and the side it leaves on. -/
def Request.replyTo (r : Request) : ReplyTo :=
  { side := r.side, tag := trunkTag r.words, request := wordAt r.payload 0, argument := wordAt r.payload 1 }

/-! ## Replies (R154, R166, R168, R179) -/

/-- The seven statuses (R168). -/
inductive Status where
  | ok
  | okClamped
  | busy
  | overlap
  | range
  | guarded
  | unknown
  deriving DecidableEq, Repr

def Status.code : Status → Nat
  | .ok => 0
  | .okClamped => 1
  | .busy => 2
  | .overlap => 3
  | .range => 4
  | .guarded => 5
  | .unknown => 6

/-- What a reply says: its status, and its record where R168 calls for one. -/
structure Finding where
  status : Status
  record : List Word
  deriving DecidableEq, Repr

/-- The REPLY packet (R154, R168, section 11.2). -/
def State.replyPacket (s : State) (q : ReplyTo) (f : Finding) : Reply :=
  { side := q.side,
    words := trunkPacket Config.controllerStation s.sourceStation .reply 0 q.tag
      ([wordOf (place (bitsOf q.request 4 12) 4 12 + place f.status.code 0 4), q.argument] ++ f.record) }

/-- A side's reply queue has room (R154). -/
def State.replyRoom (s : State) (side : Side) : Bool := (s.port side).replies.length < Config.queuePlaces

/-- A STORE_TRIM reply waits for room on a side (R154). -/
def State.trimWaits (s : State) (side : Side) : Bool := s.mgmt.trimReplies.any (fun r => r.side == side)

/-- A reply enters its reply queue. -/
def State.enterReply (s : State) (r : Reply) : State :=
  s.updPort r.side (fun p => { p with replies := p.replies ++ [r.words] })

/-- The management unit hands a reply over, or holds it where the reply queue is full; a waiting STORE_TRIM reply has
the first free place (R154, R166). -/
def State.handOver (s : State) (r : Reply) : State :=
  if s.replyRoom r.side && !s.trimWaits r.side then s.enterReply r else s.setMgmt { s.mgmt with held := some r }

/-- The first STORE_TRIM reply that waits for room on a side enters its queue, where there is room (R154). -/
def State.trimReplyEntry (s : State) (side : Side) : State :=
  match s.mgmt.trimReplies.find? (fun r => r.side == side) with
  | some r =>
    if s.replyRoom side then
      (s.setMgmt { s.mgmt with trimReplies := s.mgmt.trimReplies.eraseP (fun r => r.side == side) }).enterReply r
    else s
  | none => s

/-- TRIM_REPLY_ENTRY. -/
def execTrimReplyEntry (side : Side) (s : State) : Answer := whenRunning s (fun s => s.trimReplyEntry side)

/-- The held reply enters its reply queue when there is room, after a waiting STORE_TRIM reply; the unit is ready
(R166). -/
def State.heldReplyEntry (s : State) : State :=
  match s.mgmt.held with
  | some r =>
    if s.replyRoom r.side && !s.trimWaits r.side then (s.setMgmt { s.mgmt with held := none }).enterReply r else s
  | none => s

/-- HELD_REPLY_ENTRY. -/
def execHeldReplyEntry (s : State) : Answer := whenRunning s State.heldReplyEntry

/-- The management unit is about to take a TRUNK_RESET: it is ready, and takes the head of its queue at once (R166), so that
what completes now falls together with the reset (R176; notes/assumptions/36.md). -/
def State.resetNext (s : State) : Bool :=
  s.mgmt.held.isNone && s.mgmt.queue.head?.any (fun r => r.kind = .control .trunkReset)

/-- A STORE_TRIM reply is generated (R154): it enters its queue, or waits for room behind those already waiting. At a
completion that falls together with a trunk reset it waits for the emptied queue (R176). -/
def State.trimReply (s : State) (r : Reply) : State :=
  if s.replyRoom r.side && !s.trimWaits r.side && !s.resetNext then s.enterReply r
  else s.setMgmt { s.mgmt with trimReplies := s.mgmt.trimReplies ++ [r] }

/-- TRIM_WRITE_COMPLETE (R15): the cell holds the captured value, the flag clears, and an addressed STORE_TRIM is
answered OK. -/
def State.trimWritten (s : State) : State :=
  match s.trim.write with
  | some w =>
    let s := s.setTrim { value := w.captured, write := none }
    match w.replyTo with
    | some q => s.trimReply (s.replyPacket q { status := .ok, record := [] })
    | none => s
  | none => s

/-- TRIM_WRITE_COMPLETE. -/
def execTrimWriteComplete (s : State) : Answer := whenRunning s State.trimWritten

/-! ## Taking a request (R166, R167) -/

/-- A request carried out: the state after it, and what its reply says; none where no reply comes at the take. -/
structure Carried where
  state : State
  reply : Option Finding

/-- A request refused: no state changes (R167). -/
def refuseWith (s : State) (status : Status) : Carried := { state := s, reply := some { status := status, record := [] } }

/-- A request carried out and answered OK without a record (R168). -/
def carriedOut (s : State) : Carried := { state := s, reply := some { status := .ok, record := [] } }

/-- A READ answered with the record as it stands (R174). -/
def answerRead (s : State) (record : List Word) : Carried :=
  { state := s, reply := some { status := .ok, record := record } }

/-- A LOAD answered with the record as written (R168). -/
def loaded (s : State) (clamped : Bool) (record : List Word) : Carried :=
  { state := s, reply := some { status := if clamped then .okClamped else .ok, record := record } }

/-- The reply of a carried request is composed and handed over; a broadcast gets none (R166, R179). -/
def Carried.answer (c : Carried) (r : Request) : State :=
  match c.reply with
  | some f => if r.broadcast then c.state else c.state.handOver (c.state.replyPacket r.replyTo f)
  | none => c.state

/-- The management unit, while ready, takes the request at the head of its queue, if it is of the given kind, carries it
out and answers it (R166). -/
def State.takeRequest (s : State) (k : RequestKind) (carry : Request → State → Carried) : State :=
  match s.mgmt.held, s.mgmt.queue with
  | none, r :: rest =>
    if r.kind = k then (carry r (s.setMgmt { s.mgmt with queue := rest })).answer r else s
  | _, _ => s

/-- Steps 4 and 5 of R167 for a LOAD: the index and the record's length. -/
def Request.loadInRange (r : Request) (t : Table) : Bool :=
  r.index < t.indexes && some r.record.length == t.recordWords

/-- A LOAD that passes steps 4 and 5 of R167 goes on to its owner's checks. -/
def carryLoad (t : Table) (owner : Nat → List Word → State → Carried) (r : Request) (s : State) : Carried :=
  if r.loadInRange t then owner r.index r.record s else refuseWith s .range

/-- A READ with its index in range returns its record (R167 step 4, R174). -/
def carryRead (t : Table) (record : Nat → State → List Word) (r : Request) (s : State) : Carried :=
  if r.index < t.indexes then answerRead s (record r.index s) else refuseWith s .range

/-- A control that takes a drop: an argument above 7 is refused (R167 step 4). -/
def carryDropControl (act : DropId → State → State) (r : Request) (s : State) : Carried :=
  if h : r.index < 8 then carriedOut (act ⟨r.index, h⟩ s) else refuseWith s .range

/-- A control that reads no argument and is always answered OK (R175). -/
def carryControl (act : State → State) (_ : Request) (s : State) : Carried := carriedOut (act s)

/-- The drop of an index, for an index in range. -/
def dropOf (i : Nat) : DropId := ⟨i % 8, by omega⟩

/-- The region of an index, for an index in range. -/
def regionOf (i : Nat) : RegionId := ⟨i % 9, by omega⟩

/-! ## LOAD PART (R22, R23, R172) -/

/-- A PART record is written; in SLEW, c takes the new L_slew with the sign it had (R23). -/
def State.writePart (s : State) (p : PartRecord) : State :=
  let s' := s.setPart p
  if s.tracker.state = .slew then
    s'.setCorrection (if s.clock.correction < 0 then -p.slewStep else p.slewStep)
  else s'

def ownLoadPart (_ : Nat) (ws : List Word) (s : State) : Carried :=
  let p := PartRecord.ofWords ws
  loaded (s.writePart p) (partLimits ws) p.words

/-- LOAD_PART. -/
def execLoadPart (s : State) : Answer :=
  whenRunning s (fun s => s.takeRequest (.load .part) (carryLoad .part ownLoadPart))

/-! ## LOAD PROFILE (R46, R57, R58, R59) -/

/-- A guarded LOAD without the force flag (R59). -/
def State.guardRefuses (s : State) (d : DropId) (p : Profile) (ws : List Word) : Bool :=
  s.rolling d && guardedChange (s.drop d).profile p && !forceFlag ws

/-- An accepted profile record: applied at once on a DISABLED drop, otherwise the pending profile (R57, R58). -/
def State.acceptProfile (s : State) (d : DropId) (p : Profile) : State :=
  if (s.drop d).line.enabled then s.updCadence d (fun c => { c with pendingProfile := some p })
  else s.loadDisabled d p

def ownLoadProfile (i : Nat) (ws : List Word) (s : State) : Carried :=
  match Profile.ofWords ws with
  | none => refuseWith s .range
  | some p =>
    if s.guardRefuses (dropOf i) p ws then refuseWith s .guarded
    else loaded (s.acceptProfile (dropOf i) p) (profileLimits p.rate ws) (p.words false false)

/-- LOAD_PROFILE. -/
def execLoadProfile (s : State) : Answer :=
  whenRunning s (fun s => s.takeRequest (.load .profile) (carryLoad .profile ownLoadProfile))

/-! ## LOAD REGION (R127) -/

/-- The sizes a region can have (R126). -/
def regionSizes : List Nat := [8, 16, 32, 64, 128, 256]

/-- An assigned record's size and base are allowed (R127 step 2). -/
def RegionRecord.inRange (x : RegionRecord) : Bool :=
  !x.assigned || (regionSizes.contains x.size && x.base % x.size == 0 && x.base ≤ 511)

/-- Two runs of slots or stations share one. -/
def runsMeet (base size base' size' : Nat) : Bool := base < base' + size' && base' < base + size

/-- A record moves the region: its assigned state, base or size changes (R127 step 3). -/
def RegionRecord.moves (x : RegionRecord) (r : Region) : Bool :=
  x.assigned != r.assigned || x.base != r.base || x.size != r.size

/-- The region's counters are cleared by the load: it assigns or unassigns the region, or moves an assigned one
(R127). -/
def RegionRecord.clears (x : RegionRecord) (r : Region) : Bool :=
  x.assigned != r.assigned || (r.assigned && (x.base != r.base || x.size != r.size))

/-- The region as an accepted record writes it (R127). -/
def RegionRecord.write (x : RegionRecord) (r : Region) : Region :=
  let r' := { r with assigned := x.assigned, base := x.base, size := x.size, policy := x.policy }
  if x.clears r then { r' with accepted := 0, retired := 0, discarded := 0 } else r'

/-- The region table's indexes. -/
def allRegions : List RegionId := [0, 1, 2, 3, 4, 5, 6, 7, 8]

/-- An assigned record shares a slot with another assigned entry (R127 step 4). -/
def State.regionOverlaps (s : State) (i : RegionId) (x : RegionRecord) : Bool :=
  x.assigned && allRegions.any (fun j =>
    j != i && (s.region j).assigned && runsMeet x.base x.size (s.region j).base (s.region j).size)

def ownLoadRegion (i : Nat) (ws : List Word) (s : State) : Carried :=
  let x := RegionRecord.ofWords ws
  let r := s.region (regionOf i)
  if !x.inRange then refuseWith s .range
  else if !r.items.isEmpty && x.moves r then refuseWith s .busy
  else if s.regionOverlaps (regionOf i) x then refuseWith s .overlap
  else loaded (s.updRegion (regionOf i) x.write) false (x.write r).words

/-- LOAD_REGION. -/
def execLoadRegion (s : State) : Answer :=
  whenRunning s (fun s => s.takeRequest (.load .region) (carryLoad .region ownLoadRegion))

/-! ## LOAD ROUTE (R158) -/

/-- A route table index. -/
abbrev RouteId := Fin 32

def routeOf (i : Nat) : RouteId := ⟨i % 32, by omega⟩

def allRoutes : List RouteId := List.finRange 32

def State.route (s : State) (i : RouteId) : Route := s.trunk.routes[i.val]

/-- The range sizes of a route (R158). -/
def routeSizes : List Nat := [1, 2, 4, 8, 16, 32, 64]

/-- A valid record's kind, size and base are allowed (R158 step 2). -/
def Route.inRange (r : Route) : Bool :=
  !r.valid || (r.kind.toNat < 2 && routeSizes.contains r.size && r.base % r.size == 0)

/-- A valid record shares a station with another valid entry of its kind (R158 step 3). -/
def State.routeOverlaps (s : State) (i : RouteId) (r : Route) : Bool :=
  r.valid && allRoutes.any (fun j =>
    j != i && (s.route j).valid && (s.route j).kind == r.kind
      && runsMeet r.base r.size (s.route j).base (s.route j).size)

def State.setRoute (s : State) (i : RouteId) (r : Route) : State :=
  s.setTrunk { s.trunk with routes := s.trunk.routes.set i.val r }

def ownLoadRoute (i : Nat) (ws : List Word) (s : State) : Carried :=
  let r := Route.ofWords ws
  if !r.inRange then refuseWith s .range
  else if s.routeOverlaps (routeOf i) r then refuseWith s .overlap
  else loaded (s.setRoute (routeOf i) r) false r.words

/-- LOAD_ROUTE. -/
def execLoadRoute (s : State) : Answer :=
  whenRunning s (fun s => s.takeRequest (.load .route) (carryLoad .route ownLoadRoute))

/-! ## LOAD USER-BITS (R76) -/

def State.writeUserBits (s : State) (i : Nat) (v : Digits) : State :=
  s.setLabels { s.labels with userBits := s.labels.userBits.setIfInBounds i v }

def ownLoadUserBits (i : Nat) (ws : List Word) (s : State) : Carried :=
  let v := digitsOfWords (wordAt ws 0) (wordAt ws 1)
  loaded (s.writeUserBits i v) false (digitWords v)

/-- LOAD_USER_BITS. -/
def execLoadUserBits (s : State) : Answer :=
  whenRunning s (fun s => s.takeRequest (.load .userBits) (carryLoad .userBits ownLoadUserBits))

/-! ## READ (R174) -/

/-- READ_PART (R172). -/
def execReadPart (s : State) : Answer :=
  whenRunning s (fun s => s.takeRequest (.read .part) (carryRead .part (fun _ s => s.part.words)))

/-- The PROFILE record in force, with the pending indications (R58). -/
def State.profileWords (s : State) (d : DropId) : List Word :=
  (s.drop d).profile.words (s.drop d).cadence.pendingProfile.isSome (s.drop d).cadence.pendingAnchor

/-- READ_PROFILE. -/
def execReadProfile (s : State) : Answer :=
  whenRunning s (fun s => s.takeRequest (.read .profile) (carryRead .profile (fun i s => s.profileWords (dropOf i))))

/-- READ_REGION (R127). -/
def execReadRegion (s : State) : Answer :=
  whenRunning s (fun s => s.takeRequest (.read .region) (carryRead .region (fun i s => (s.region (regionOf i)).words)))

/-- READ_ROUTE (R158). -/
def execReadRoute (s : State) : Answer :=
  whenRunning s (fun s => s.takeRequest (.read .route) (carryRead .route (fun i s => (s.route (routeOf i)).words)))

/-- READ_USER_BITS (R76). -/
def execReadUserBits (s : State) : Answer :=
  whenRunning s (fun s =>
    s.takeRequest (.read .userBits) (carryRead .userBits (fun i s => digitWords (s.labels.entry i))))

/-- READ_TRACKER_STATUS (R44). -/
def execReadTrackerStatus (s : State) : Answer :=
  whenRunning s (fun s =>
    s.takeRequest (.read .trackerStatus) (carryRead .trackerStatus (fun _ s => s.trackerStatus)))

/-- READ_DROP_STATUS (R190). -/
def execReadDropStatus (s : State) : Answer :=
  whenRunning s (fun s =>
    s.takeRequest (.read .dropStatus) (carryRead .dropStatus (fun i s => s.dropStatus (dropOf i))))

/-- READ_STORE_STATUS (R145). -/
def execReadStoreStatus (s : State) : Answer :=
  whenRunning s (fun s =>
    s.takeRequest (.read .storeStatus) (carryRead .storeStatus (fun i s => s.storeStatus (regionOf i))))

/-- READ_TRUNK_STATUS (R163). -/
def execReadTrunkStatus (s : State) : Answer :=
  whenRunning s (fun s => s.takeRequest (.read .trunkStatus) (carryRead .trunkStatus (fun _ s => s.trunkStatus)))

/-- READ_IDENT (R173). -/
def execReadIdent (s : State) : Answer :=
  whenRunning s (fun s => s.takeRequest (.read .ident) (carryRead .ident (fun _ s => s.ident)))

/-- UNKNOWN_REQUEST (R167 steps 1 to 3). -/
def execUnknownRequest (s : State) : Answer :=
  whenRunning s (fun s => s.takeRequest .unknown (fun _ s => refuseWith s .unknown))

/-! ## CONTROL (R175) -/

/-- REOPEN (R185). -/
def execReopen (s : State) : Answer :=
  whenRunning s (fun s => s.takeRequest (.control .reopen) (carryControl State.reopenGate))

/-- STORE_TRIM replies that were waiting for room enter the emptied queues, ahead of any later reply (R154): at most
four places a side. -/
def State.enterWaitingTrims (s : State) (side : Side) : State :=
  (((s.trimReplyEntry side).trimReplyEntry side).trimReplyEntry side).trimReplyEntry side

/-- The trunk reset as a control: after its effects the waiting STORE_TRIM replies enter, among them that of a completion that
falls together with the reset, ahead of the reset's own (R154, R176). -/
def State.trunkResetControl (s : State) : State := (s.trunkReset.enterWaitingTrims .a).enterWaitingTrims .b

/-- TRUNK_RESET (R176). -/
def execTrunkReset (s : State) : Answer :=
  whenRunning s (fun s => s.takeRequest (.control .trunkReset) (carryControl State.trunkResetControl))

/-- DROP_RESET (R177). -/
def execDropReset (s : State) : Answer :=
  whenRunning s (fun s => s.takeRequest (.control .dropReset) (carryDropControl (fun d s => s.dropReset d)))

/-- The effect of ANCHOR: the pending anchor of a drop that is ACTIVE or DORMANT (R61). -/
def State.requestAnchor (s : State) (d : DropId) : State :=
  if (s.drop d).line.enabled then s.updCadence d (fun c => { c with pendingAnchor := true }) else s

/-- ANCHOR (R61). -/
def execAnchor (s : State) : Answer :=
  whenRunning s (fun s => s.takeRequest (.control .anchor) (carryDropControl (fun d s => s.requestAnchor d)))

/-- The effect of FORCE_JAM (R38). -/
def State.requestJam (s : State) : State := s.setTracker { s.tracker with forceJam := true }

/-- FORCE_JAM (R38). -/
def execForceJam (s : State) : Answer :=
  whenRunning s (fun s => s.takeRequest (.control .forceJam) (carryControl State.requestJam))

/-- The effect of HOLD (R40). -/
def State.holdTracker (s : State) : State :=
  if s.tracker.hold then s
  else
    let old := s.tracker.state
    let s := s.enterFreewheel
    (s.setTracker { s.tracker with hold := true, heldFromAcquire := old = .acquire }).latchLockLost old

/-- HOLD (R40). -/
def execHold (s : State) : Answer :=
  whenRunning s (fun s => s.takeRequest (.control .hold) (carryControl State.holdTracker))

/-- The effect of RESUME (R41). -/
def State.resumeTracker (s : State) : State :=
  if s.tracker.hold then
    s.setTracker { s.tracker with
      hold := false, missingTime := 0, expiryDue := false, firstArrival := true, heldFromAcquire := false,
      state := if s.tracker.heldFromAcquire then .acquire else s.tracker.state }
  else s

/-- RESUME (R41). -/
def execResume (s : State) : Answer :=
  whenRunning s (fun s => s.takeRequest (.control .resume) (carryControl State.resumeTracker))

/-- STORE_TRIM at its take (R15): BUSY with a write in flight, otherwise A is captured and its write starts; the reply
to an addressed one comes at the write's completion. -/
def carryStoreTrim (r : Request) (s : State) : Carried :=
  if s.trim.write.isSome then refuseWith s .busy
  else
    { state := s.setTrim { s.trim with
        write := some { captured := s.tracker.drift, replyTo := if r.broadcast then none else some r.replyTo } },
      reply := none }

/-- STORE_TRIM (R15). -/
def execStoreTrim (s : State) : Answer :=
  whenRunning s (fun s => s.takeRequest (.control .storeTrim) carryStoreTrim)

end Sys2Proof.Machine
end

