-- ==== Sys2Proof/Machine/Dispatch.lean ====
section
/-! DEFINITION. Which meaning each command has: one arm per constructor, one direct call per arm. -/

namespace Sys2Proof.Machine

def exec (i : Instr) (s : State) : Host.Outcome State Fault Refusal :=
  match i with
  | .powerOn => Sys2Proof.Machine.execPowerOn s
  | .powerOnResetEnd stn => Sys2Proof.Machine.execPowerOnResetEnd stn s
  | .epoch => Sys2Proof.Machine.execEpoch s
  | .houseBoundaryEvent => Sys2Proof.Machine.execHouseBoundaryEvent s
  | .missingTimeExpiry => Sys2Proof.Machine.execMissingTimeExpiry s
  | .dropBoundaryEvent d => Sys2Proof.Machine.execDropBoundaryEvent d s
  | .pulseEnd d => Sys2Proof.Machine.execPulseEnd d s
  | .trunkPacketComplete side words => Sys2Proof.Machine.execTrunkPacketComplete side words s
  | .trunkLostSignal side => Sys2Proof.Machine.execTrunkLostSignal side s
  | .trunkResyncEnd side => Sys2Proof.Machine.execTrunkResyncEnd side s
  | .sideATransmitStart => Sys2Proof.Machine.execSideATransmitStart s
  | .sideATransmitComplete => Sys2Proof.Machine.execSideATransmitComplete s
  | .sideBTransmitStart k => Sys2Proof.Machine.execSideBTransmitStart k s
  | .sideBTransmitComplete => Sys2Proof.Machine.execSideBTransmitComplete s
  | .heldReplyEntry => Sys2Proof.Machine.execHeldReplyEntry s
  | .trimReplyEntry side => Sys2Proof.Machine.execTrimReplyEntry side s
  | .dropHeaderMalformed d kind len => Sys2Proof.Machine.execDropHeaderMalformed d kind len s
  | .dropResyncEnd d => Sys2Proof.Machine.execDropResyncEnd d s
  | .dropReceiveStall d => Sys2Proof.Machine.execDropReceiveStall d s
  | .stampPacketComplete d words => Sys2Proof.Machine.execStampPacketComplete d words s
  | .dropActivity d change => Sys2Proof.Machine.execDropActivity d change s
  | .lineArbiterStart d => Sys2Proof.Machine.execLineArbiterStart d s
  | .dropTransmitComplete d => Sys2Proof.Machine.execDropTransmitComplete d s
  | .dropTransmitStall d => Sys2Proof.Machine.execDropTransmitStall d s
  | .intakeTake => Sys2Proof.Machine.execIntakeTake s
  | .intakeComplete => Sys2Proof.Machine.execIntakeComplete s
  | .itemStale => Sys2Proof.Machine.execItemStale s
  | .reportEmission => Sys2Proof.Machine.execReportEmission s
  | .holdoffExpiry => Sys2Proof.Machine.execHoldoffExpiry s
  | .trimWriteComplete => Sys2Proof.Machine.execTrimWriteComplete s
  | .loadPart => Sys2Proof.Machine.execLoadPart s
  | .loadProfile => Sys2Proof.Machine.execLoadProfile s
  | .loadRegion => Sys2Proof.Machine.execLoadRegion s
  | .loadRoute => Sys2Proof.Machine.execLoadRoute s
  | .loadUserBits => Sys2Proof.Machine.execLoadUserBits s
  | .readPart => Sys2Proof.Machine.execReadPart s
  | .readProfile => Sys2Proof.Machine.execReadProfile s
  | .readRegion => Sys2Proof.Machine.execReadRegion s
  | .readRoute => Sys2Proof.Machine.execReadRoute s
  | .readUserBits => Sys2Proof.Machine.execReadUserBits s
  | .readTrackerStatus => Sys2Proof.Machine.execReadTrackerStatus s
  | .readDropStatus => Sys2Proof.Machine.execReadDropStatus s
  | .readStoreStatus => Sys2Proof.Machine.execReadStoreStatus s
  | .readTrunkStatus => Sys2Proof.Machine.execReadTrunkStatus s
  | .readIdent => Sys2Proof.Machine.execReadIdent s
  | .unknownRequest => Sys2Proof.Machine.execUnknownRequest s
  | .reopen => Sys2Proof.Machine.execReopen s
  | .trunkReset => Sys2Proof.Machine.execTrunkReset s
  | .dropReset => Sys2Proof.Machine.execDropReset s
  | .anchor => Sys2Proof.Machine.execAnchor s
  | .forceJam => Sys2Proof.Machine.execForceJam s
  | .hold => Sys2Proof.Machine.execHold s
  | .resume => Sys2Proof.Machine.execResume s
  | .storeTrim => Sys2Proof.Machine.execStoreTrim s
  | .trunkStartBit side k => Sys2Proof.Machine.execTrunkStartBit side k s
  | .wordClockEdge d k => Sys2Proof.Machine.execWordClockEdge d k s

end Sys2Proof.Machine
end

