-- ==== Sys2Proof/Safety.lean ====
section
/-! DEFINITION. What a safe run of the part keeps: the laws that the manual states of every reachable state, as
predicates on one state; and the ways in which statements say what a step leaves alone. -/

namespace Sys2Proof.Machine

/-! ## The laws of the manual -/

/-- The bounds of the house clock's and the tracker's numbers (R1, R10, R22, R23, R25, R40): H in 64 bits, F below 2^24,
the step count in 16 bits, A within ±C_track, c within ±C_track outside SLEW and at ±L_slew in SLEW; the lock window is no
wider than the step threshold; a held tracker is in FREEWHEEL. -/
structure State.TimeBounded (s : State) : Prop where
  time : s.clock.time < Config.houseTimeEnd
  fraction : s.clock.fraction < 16777216
  stepCount : s.clock.stepCount < 65536
  slewPpm : 1 ≤ s.part.slewPpm ∧ s.part.slewPpm ≤ 1000
  windows : s.part.lockWindow ≤ s.part.stepThreshold
  drift : -Config.cTrack ≤ s.tracker.drift ∧ s.tracker.drift ≤ Config.cTrack
  correction : s.tracker.state ≠ .slew → -Config.cTrack ≤ s.clock.correction ∧ s.clock.correction ≤ Config.cTrack
  slewing : s.tracker.state = .slew →
    s.clock.correction = s.part.slewStep ∨ s.clock.correction = -s.part.slewStep
  held : s.tracker.hold = true → s.tracker.state = .freewheel
  /-- While power-on reset lasts the tracker is in ACQUIRE (R26, R193). -/
  resetting : s.inReset = true → s.tracker.state = .acquire

/-- The guard flag is set exactly while some take is ROLLING (R36). -/
def State.GuardTrue (s : State) : Prop := s.tracker.guardFlag = true ↔ ∃ d, (s.drop d).take.state = .rolling

/-- What the state of one drop allows (R57, R61, R64, R90, R96, R98, R100, R120). -/
structure State.DropLawAt (s : State) (d : DropId) : Prop where
  /-- DISABLED exactly while the profile in force is not enabled. -/
  disabledIff : (s.drop d).line.state = .disabled ↔ (s.drop d).profile.enabled = false
  /-- A DISABLED or DORMANT drop has no ROLLING take. -/
  rolling : (s.drop d).take.state = .rolling → (s.drop d).line.state = .active
  /-- A stamp is on its way through only from an ACTIVE drop. -/
  stampUnderWay : s.stampUnderWay d = true → (s.drop d).line.state = .active
  /-- A FRAME waits only at an ACTIVE drop with line function PACKET. -/
  slot : (s.drop d).line.slot ≠ none → (s.drop d).line.state = .active ∧ (s.drop d).profile.lineFunction = .packet
  /-- Copies are queued only at an enabled drop with line function PACKET. -/
  queue : (s.drop d).line.copyQueue ≠ [] →
    (s.drop d).line.state ≠ .disabled ∧ (s.drop d).profile.lineFunction = .packet
  /-- A DISABLED drop sends nothing, holds DF low and has nothing pending. -/
  quiet : (s.drop d).line.state = .disabled →
    (s.drop d).line.transmission = none ∧ (s.drop d).df.level = false ∧ (s.drop d).cadence.pendingProfile = none
      ∧ (s.drop d).cadence.pendingAnchor = false

/-- Every drop keeps to what its state allows. -/
def State.DropLaw (s : State) : Prop := ∀ d, s.DropLawAt d

/-- Every ROLLING take's roll house time is at most house time (R100, R120). -/
def State.RolledByNow (s : State) : Prop :=
  ∀ d, (s.drop d).take.state = .rolling → (s.drop d).take.rollTime ≤ s.clock.time

/-- The queues and FIFOs keep within their places (R92, R152, R154, R165). -/
structure State.WithinPlaces (s : State) : Prop where
  management : s.mgmt.queue.length ≤ 4
  repliesA : s.trunk.sideA.replies.length ≤ 4
  repliesB : s.trunk.sideB.replies.length ≤ 4
  upFifo : s.trunk.upFifo.length ≤ 8
  downFifo : s.trunk.downFifo.length ≤ 8
  copies : ∀ d, (s.drop d).line.copyQueue.length ≤ 4

/-- A region owns a slot of the store (R126). -/
def Region.owns (r : Region) (slot : Nat) : Prop := r.assigned = true ∧ r.base ≤ slot ∧ slot < r.base + r.size

/-- No two assigned regions share a slot, the slots are those of the store, and no region holds more than its size
(R126, R128). -/
structure State.RegionsFit (s : State) : Prop where
  apart : ∀ i j : RegionId, ∀ slot, i ≠ j → (s.region i).owns slot → ¬ (s.region j).owns slot
  inStore : ∀ (i : RegionId) (slot : Nat), (s.region i).owns slot → slot < 512
  within : ∀ i : RegionId, (s.region i).items.length ≤ (s.region i).size

/-- A region's items and counters balance in 32-bit arithmetic, and an unassigned region holds and counts nothing
(R144). -/
structure Region.Balanced (r : Region) : Prop where
  sum : r.accepted % 4294967296 = (r.items.length + r.retired + r.discarded) % 4294967296
  bounded : r.accepted < 4294967296 ∧ r.retired < 4294967296 ∧ r.discarded < 4294967296
  unassigned : r.assigned = false → r.items = [] ∧ r.accepted = 0 ∧ r.retired = 0 ∧ r.discarded = 0

def State.Conserved (s : State) : Prop := ∀ i : RegionId, (s.region i).Balanced

/-- No two valid route entries of one kind cover the same station, and a valid entry covers stations 0 to 63
(R158). -/
structure State.RoutesApart (s : State) : Prop where
  apart : ∀ i j : RouteId, ∀ k station, i ≠ j → (s.route i).covers k station = true →
    (s.route j).covers k station = false
  stations : ∀ i : RouteId, (s.route i).valid = true →
    (s.route i).kind.toNat < 2 ∧ 1 ≤ (s.route i).size ∧ (s.route i).base + (s.route i).size ≤ 64

/-- Held items carry serials of their own, none is stale, each is owed to somebody, a region holds its items oldest first,
and a copy queue names, once each, held items whose sets name its drop (R92, R129, R130, R131). -/
structure State.DeliveryLaw (s : State) : Prop where
  counter : s.store.serial < Config.serialEnd
  distinct : (s.heldItems.map Held.serial).Nodup
  fresh : ∀ h ∈ s.heldItems, h.serial < Config.serialEnd ∧ s.age h < Config.staleAge
  owed : ∀ h ∈ s.heldItems, h.owed = true
  ordered : ∀ i : RegionId, (s.region i).items.Pairwise (fun x y => s.age y < s.age x)
  once : ∀ d, (s.drop d).line.copyQueue.Nodup
  queued : ∀ d, ∀ n ∈ (s.drop d).line.copyQueue, ∃ h ∈ s.heldItems, h.serial = n ∧ names h.drops d = true

/-! ## What a step leaves alone -/

/-- Nothing changed but what the part holds for drop `d`. -/
def OnlyDrop (d : DropId) (s t : State) : Prop :=
  t = { s with drops := t.drops } ∧ ∀ e, e ≠ d → t.drop e = s.drop e

/-- Nothing changed but what the part holds for drop `d`, and the report latches. -/
def OnlyDropAndLatches (d : DropId) (s t : State) : Prop :=
  t = { s with drops := t.drops, reports := t.reports } ∧ ∀ e, e ≠ d → t.drop e = s.drop e

/-- Of the report unit, the causes listed were latched once each, naming a drop or none, and nothing else of it changed
(R181). -/
def LatchedExactly (cs : List Cause) (d : Option DropId) (s t : State) : Prop :=
  t.reports = { s.reports with latches := t.reports.latches }
    ∧ ∀ c, if c ∈ cs then
        (t.latchOf c).pending = true
          ∧ (t.latchOf c).drops = (s.latchOf c).drops ||| (match d with
              | some d => maskOf d
              | none => 0#8)
          ∧ (t.latchOf c).count = min 255 ((s.latchOf c).count + 1)
      else t.latchOf c = s.latchOf c

/-- Held items carry 32-bit serials, and after `n` more draws none of them has gone stale (R129). -/
def State.NoneStaleAfter (s : State) (n : Nat) : Prop :=
  ∀ h ∈ s.heldItems, h.serial < 4294967296
    ∧ ((s.store.serial + n) % 4294967296 + 4294967296 - h.serial) % 4294967296 < 2147483648

/-- A region is assigned and has room for `n` more items (R130). -/
def Region.RoomFor (r : Region) (n : Nat) : Prop := r.assigned = true ∧ r.items.length + n ≤ r.size

/-- The intake has a packet of drop `d` in process whose stamp is well formed and of a kind the drop's role accepts
(R105, R106). -/
structure State.Accepted (s : State) (d : DropId) (r : Received) (x : DeviceStamp) : Prop where
  running : s.inReset = false
  inProcess : s.intake.inProcess = some { source := d, packet := r }
  wellFormed : s.readStamp d r.words = some x
  accepted : (s.drop d).profile.accepts x.kind = true

/-! ## Copy queues (R134) -/

/-- The scheduler may add copies to the drop's queue while it holds fewer than four (R134). -/
def Drop.GivenCopies (x : Drop) : Prop :=
  x.profile.enabled = true ∧ x.profile.role = .edit ∧ x.line.state = .active ∧ x.profile.lineFunction = .packet

/-- An item of serial `n` is held, and its set names the drop. -/
def State.Owes (s : State) (d : DropId) (n : Nat) : Prop := ∃ h ∈ s.heldItems, h.serial = n ∧ names h.drops d = true

/-- The age of a serial (R129). -/
def State.ageOf (s : State) (n : Nat) : Nat := (s.store.serial + 4294967296 - n) % 4294967296

/-- The copy queue `q` of drop `d` is filled to `q'` from what `s` holds (R134): items owed to the drop and not yet in the
queue enter at its tail, oldest first, until the queue holds four or none is left; nothing enters where the drop is not given
copies. -/
def State.Filled (s : State) (d : DropId) (q q' : List Nat) : Prop :=
  ∃ more, q' = q ++ more
    ∧ (more ≠ [] → (s.drop d).GivenCopies ∧ q'.length ≤ 4)
    ∧ (∀ n ∈ more, n ∉ q ∧ s.Owes d n)
    ∧ more.Pairwise (fun m n => m ≠ n ∧ s.ageOf n ≤ s.ageOf m)
    ∧ ∀ n, s.Owes d n → n ∉ q' →
        (∀ m ∈ more, s.ageOf n ≤ s.ageOf m) ∧ ((s.drop d).GivenCopies → 4 ≤ q'.length)

/-- In `t`, drop `d` is `x` but for its copy queue, which has been filled. -/
def State.FilledFrom (t : State) (d : DropId) (x : Drop) : Prop :=
  ∃ q, t.drop d = { x with line := { x.line with copyQueue := q } } ∧ t.Filled d x.line.copyQueue q

/-- In `t`, drop `d` is `x`, with its copy queue filled if the mask names the drop. -/
def State.FilledIfNamed (t : State) (m : DropMask) (d : DropId) (x : Drop) : Prop :=
  if names m d = true then t.FilledFrom d x else t.drop d = x

/-! ## Items that come and go (R129 to R139) -/

/-- An item that is handed to region `i` with a delivery set is held: the region has room, the set is not empty, and no held
item goes stale (R129, R130). -/
structure State.TakesItem (s : State) (i : RegionId) (up : Bool) (m : DropMask) : Prop where
  room : (s.region i).RoomFor 1
  owed : up = true ∨ m ≠ 0#8
  fresh : s.NoneStaleAfter 1

/-- Region `i` holds an item under the next serial, as its newest, with the delivery set given; the copy queues of the drops
that the set names are filled (R129, R130, R134). -/
def ItemJoins (i : RegionId) (item : ItemBody) (up : Bool) (m : DropMask) (s t : State) : Prop :=
  t = { s with
    drops := t.drops,
    store := { s.store with serial := (s.store.serial + 1) % 4294967296, regions := t.store.regions } }
  ∧ (∀ j, j ≠ i → t.region j = s.region j)
  ∧ t.region i = { s.region i with
      items := (s.region i).items ++
        [{ serial := (s.store.serial + 1) % 4294967296, item := item, up := up, drops := m }],
      accepted := ((s.region i).accepted + 1) % 4294967296 }
  ∧ ∀ e, t.FilledIfNamed m e (s.drop e)

/-- An item that meets an unassigned region is not held, and its serial is drawn all the same: counted at its source drop, or
as pass-unassigned (R113, R130). -/
def CountedUnassigned (source : Option DropId) (s t : State) : Prop :=
  match source with
  | some d => t = { s with store := { s.store with serial := (s.store.serial + 1) % 4294967296 } }.updDrop d (fun x =>
      { x with line := { x.line with counters := { x.line.counters with
          unassignedDiscards := min 65535 (x.line.counters.unassignedDiscards + 1) } } })
  | none => t = { s with store := { s.store with
      serial := (s.store.serial + 1) % 4294967296, passUnassigned := min 65535 (s.store.passUnassigned + 1) } }

/-- An item meets its region full: every other region stays, both counters rise, and REGION_FULL is latched (R132, R133). The
policy decides whether it is held (`Obligations.RefusingRegionTurnsAway`). -/
def MeetsFull (i : RegionId) (source : Option DropId) (s t : State) : Prop :=
  LatchedExactly [.regionFull] source s t
  ∧ t = { s with
      drops := t.drops, reports := t.reports,
      store := { s.store with serial := (s.store.serial + 1) % 4294967296, regions := t.store.regions } }
  ∧ (∀ j, j ≠ i → t.region j = s.region j)
  ∧ t.region i = { s.region i with
      items := (t.region i).items, accepted := ((s.region i).accepted + 1) % 4294967296,
      discarded := ((s.region i).discarded + 1) % 4294967296 }
  ∧ (t.region i).items.length = (s.region i).items.length

/-- An item is made and handed to region `i` with a delivery set, whatever the region does with it (R113, R129, R130): its
serial is drawn and it is admitted as `State.admitItem` has it (`Obligations.ItemAdmission`,
`Obligations.RefusingRegionTurnsAway`), after the draw has discarded what it makes stale (notes/assumptions/11.md); and, where
no held item goes stale, it joins a region with room, is counted by an
unassigned one, and meets the policy of a full one. -/
def ItemHanded (i : RegionId) (source : Option DropId) (item : ItemBody) (up : Bool) (m : DropMask) (s t : State) : Prop :=
  t = s.drawSerial.admitItem i source
    { serial := (s.store.serial + 1) % 4294967296, item := item, up := up, drops := m }
  ∧ (s.TakesItem i up m → ItemJoins i item up m s t)
  ∧ ((s.region i).assigned = false → s.NoneStaleAfter 1 → CountedUnassigned source s t)
  ∧ ((s.region i).assigned = true → (s.region i).size ≤ (s.region i).items.length → up = true ∨ m ≠ 0#8 →
      s.NoneStaleAfter 1 → MeetsFull i source s t)

/-- Drop `d` makes an item and hands it to its region, with the delivery set of the route table as it stands (R131). -/
def ItemMade (d : DropId) (item : ItemBody) (s t : State) : Prop :=
  ItemHanded (dropRegion d) (some d) item (s.lookup item.routeKind s.sourceStation).1
    (s.lookup item.routeKind s.sourceStation).2 s t

/-- Held items leave the store as discarded (R139): those of the serials listed leave their regions, which count them, and
the copy queues, and a queue that an entry has left is filled (R134), at once by the model's reading
(notes/assumptions/12.md). -/
def Discards (ns : List Nat) (s t : State) : Prop :=
  t = { s with drops := t.drops, store := { s.store with regions := t.store.regions } }
  ∧ (∀ i, ∃ n, n = ((s.region i).items.filter (fun h => ns.contains h.serial)).length
      ∧ t.region i = { s.region i with
          items := (s.region i).items.filter (fun h => !ns.contains h.serial),
          discarded := if n = 0 then (s.region i).discarded else ((s.region i).discarded + n) % 4294967296 })
  ∧ ∀ e, if ∃ n ∈ ns, n ∈ (s.drop e).line.copyQueue then
        t.FilledFrom e { s.drop e with line := { (s.drop e).line with
          copyQueue := (s.drop e).line.copyQueue.filter (fun n => !ns.contains n) } }
      else t.drop e = s.drop e

/-- The serials of the held items whose age has reached 2^31 (R129). -/
def State.staleSerials (s : State) : List Nat :=
  (s.heldItems.filter (fun h => decide (2147483648 ≤ s.ageOf h.serial))).map Held.serial

/-- Every held item's delivery set changes by `f`, and the items whose sets are then empty retire (R137). -/
def SetsChange (f : Held → Held) (s t : State) : Prop :=
  t = { s with store := { s.store with regions := t.store.regions } }
  ∧ ∀ i, ∃ kept, kept = ((s.region i).items.map f).filter (fun h => h.up || h.drops != 0#8)
      ∧ t.region i = { s.region i with
          items := kept, retired := ((s.region i).retired + ((s.region i).items.length - kept.length)) % 4294967296 }

/-- A held item is in flight: in a copy queue, or in transmission on side A (R133). -/
def State.InFlight (s : State) (n : Nat) : Prop :=
  (∃ d, n ∈ (s.drop d).line.copyQueue) ∨ ∃ words, s.trunk.transmissionA = some (.item n words)

/-! ## Takes that close (R116, R118, R120) -/

/-- The take of drop `d` closes for a reason, and the guard stays on only while another take is ROLLING. -/
def TakeCloses (d : DropId) (reason : CloseReason) (s t : State) : Prop :=
  t = { s with
    tracker := { s.tracker with guardFlag := decide (∃ e, e ≠ d ∧ (s.drop e).take.state = .rolling) }, drops := t.drops }
  ∧ (∀ e, e ≠ d → t.drop e = s.drop e)
  ∧ t.drop d = { s.drop d with take := { (s.drop d).take with state := .idle, lastClose := reason } }

/-- The part closes the ROLLING take of drop `d` and makes its synthesized CUT at the current house time (R118): frame and
subframe by the profile and the anchor given, which are those in force before any apply of the same event. -/
def ClosesWithCut (d : DropId) (reason : CloseReason) (p : Profile) (anchor : Int) (s t : State) : Prop :=
  ∃ u, TakeCloses d reason s u
    ∧ ItemMade d (.stamp
        { kind := .cut, sourceDrop := d.val, time := s.clock.time,
          frame := forward p anchor s.clock.time / p.rate.period,
          subframe := forward p anchor s.clock.time % p.rate.period * 256 / p.rate.period,
          flags := { StampFlags.clear with synthetic := true, rebased := (s.drop d).take.rebased },
          takeNumber := some (s.drop d).take.number }) u t

/-! ## What arrives on the trunk -/

/-- A packet completes on a receiving side, as many words in as its header announces (R146). -/
structure State.PacketIn (s : State) (side : Side) (words : List Word) : Prop where
  running : s.inReset = false
  receiving : (s.port side).receiver.condition = .receiving
  complete : trunkComplete words = true

/-- A valid TIME packet completes on side A (R17). -/
structure State.TimeIn (s : State) (words : List Word) : Prop extends s.PacketIn .a words where
  check : checkCorrect words = true
  header : trunkHeaderOk words = true
  kind : trunkKind words = some .time
  hop : trunkHop words < 15

/-- The ports after a well-formed packet on a side has been counted and handed on (R147). -/
def Trunk.afterReceived (t : Trunk) (side : Side) : Trunk :=
  match side with
  | .a => { t with sideA := { t.sideA with
      receiver := { t.sideA.receiver with condition := .hunting },
      counters := { t.sideA.counters with received := min 65535 (t.sideA.counters.received + 1) } } }
  | .b => { t with sideB := { t.sideB with
      receiver := { t.sideB.receiver with condition := .hunting },
      counters := { t.sideB.counters with received := min 65535 (t.sideB.counters.received + 1) } } }

/-- The quality that a TIME packet carries (R9). -/
def timeQuality (words : List Word) : Quality := qualityOfPayload (trunkPayload words)

/-- What a valid TIME packet hands over, whether or not it disciplines (R4, R8, R17, R42): its rate code, 1 to 13, becomes
the pending house rate; its hop is written; and while HOLD is clear so is its quality. -/
def State.afterTime (s : State) (words : List Word) : State :=
  { s with
    clock := { s.clock with receivedHop := trunkHop words, anyArrival := true },
    house := { s.house with
      pendingRate := match Rate.ofCode (rateCodeOfPayload (trunkPayload words)) with
        | some r => some r
        | none => s.house.pendingRate },
    tracker := { s.tracker with upstream := if s.tracker.hold = true then s.tracker.upstream else timeQuality words },
    trunk := s.trunk.afterReceived .a }

/-- A change of the upstream quality latches QUALITY_CHANGE (R42). -/
def State.qualityCauses (s : State) (words : List Word) : List Cause :=
  if s.tracker.hold = true ∨ s.tracker.upstream = timeQuality words then [] else [.qualityChange]

/-- The timer has expired at an epoch, in a tracker state that acts on it (R20, R30). -/
def State.ExpiryActs (s : State) : Prop :=
  s.tracker.expiryDue = true ∧ (s.tracker.state = .track ∨ s.tracker.state = .locked ∨ s.tracker.state = .slew)

/-- A disciplining TIME arrival on side A of error `e` (R17, R18): e is (H_m + d) − H_cap, limited to ±2^40. Any expiry of the
missing-TIME timer has been taken before it (`Obligations.MissingTimeExpiryFreewheels`). -/
structure State.Disciplines (s : State) (words : List Word) (e : Int) : Prop extends s.TimeIn words where
  settled : ¬ s.ExpiryActs
  hold : s.tracker.hold = false
  referenced : timeQuality words ≠ .unreferenced
  windows : s.part.lockWindow ≤ s.part.stepThreshold
  error : e = max (-1099511627776) (min 1099511627776
    ((timeOfPayload (trunkPayload words) : Int) + s.part.trunkDelay - s.trunk.sideA.receiver.capture))

/-- A disciplining arrival of error `e` brings the step decision (R28, R29, R31, R33). -/
def State.StepDue (s : State) (e : Int) : Prop :=
  s.part.stepThreshold < e.natAbs
    ∧ (s.tracker.state = .freewheel
      ∨ ((s.tracker.state = .track ∨ s.tracker.state = .locked)
        ∧ s.part.nOut ≤ min 255 (s.tracker.outlierCount + 1)))

/-- A take is ROLLING under jam policy GUARDED (R31, R32). -/
def State.Guarded (s : State) : Prop := s.part.jamPolicy = .guarded ∧ s.tracker.guardFlag = true

/-- A disciplining arrival of error `e` jams (R27, R31, R32, R38). -/
def State.Jams (s : State) (e : Int) : Prop :=
  s.tracker.forceJam = true ∨ s.tracker.state = .acquire
    ∨ (¬ s.Guarded ∧ (s.StepDue e ∨ (s.tracker.state = .slew ∧ s.part.stepThreshold < e.natAbs)))

/-- LOCK_LOST, at a change out of LOCKED (R26). -/
def State.lockLost (s : State) : List Cause := if s.tracker.state = .locked then [.lockLost] else []

/-- A jam reaches a drop (R35, R53, R56, R65, R119), house time going from `old` to `new`: an enabled drop's anchor shifts
with it, its target and B are computed from the new house time, STEPPED is set, and a pulse end not yet reached shifts; a
ROLLING take's roll time shifts, at least 0, and the take is REBASED. -/
def JamReaches (old new : Nat) (x y : Drop) : Prop :=
  y.profile = x.profile ∧ y.line = x.line
  ∧ (x.line.state = .disabled → y.cadence = x.cadence ∧ y.df = x.df)
  ∧ (x.line.state ≠ .disabled → ∃ anchor target, anchor = x.cadence.anchor + ((new : Int) - old)
      ∧ target = (forward x.profile anchor new / x.profile.rate.period + 1) * x.profile.rate.period
      ∧ y.cadence = { x.cadence with
          anchor := anchor, target := target, boundary := inverse x.profile anchor target, stepped := true }
      ∧ y.df = { x.df with pulseEnd := match x.df.pulseEnd with
          | some e => some (if old < e then ((e : Int) + ((new : Int) - old)).toNat else e)
          | none => none })
  ∧ (x.take.state = .idle → y.take = x.take)
  ∧ (x.take.state = .rolling → y.take = { x.take with
      rollTime := ((x.take.rollTime : Int) + ((new : Int) - old)).toNat, rebased := true })

/-- A packet is judged malformed, misdirected or of a failed check on a side: the receiver's condition after it, and
the side's counters (R147). -/
def Trunk.afterRefused (t : Trunk) (side : Side) (c : Receiver) (f : SideCounters → SideCounters) : Trunk :=
  match side with
  | .a => { t with sideA := { t.sideA with
      receiver := { t.sideA.receiver with condition := c }, counters := f t.sideA.counters } }
  | .b => { t with sideB := { t.sideB with
      receiver := { t.sideB.receiver with condition := c }, counters := f t.sideB.counters } }

/-- A trunk with the port of one side replaced. -/
def Trunk.withPort (t : Trunk) (side : Side) (p : Port) : Trunk :=
  match side with
  | .a => { t with sideA := p }
  | .b => { t with sideB := p }

/-- A packet received on a side reaches the FIFO that it travels on through, the down FIFO from side A and the up FIFO from side
B: at its tail, or discarded, counted and latched where it holds eight (R152). -/
def EntersFifo (side : Side) (words : List Word) (s t : State) : Prop :=
  match side with
  | .a =>
    (s.trunk.downFifo.length < 8 → t = { s with trunk := { s.trunk with downFifo := s.trunk.downFifo ++ [words] } })
    ∧ (8 ≤ s.trunk.downFifo.length →
      t = { s with trunk := { s.trunk with downOverflow := min 65535 (s.trunk.downOverflow + 1) }, reports := t.reports }
      ∧ LatchedExactly [.trunkOverflow] none s t)
  | .b =>
    (s.trunk.upFifo.length < 8 → t = { s with trunk := { s.trunk with upFifo := s.trunk.upFifo ++ [words] } })
    ∧ (8 ≤ s.trunk.upFifo.length →
      t = { s with trunk := { s.trunk with upOverflow := min 65535 (s.trunk.upOverflow + 1) }, reports := t.reports }
      ∧ LatchedExactly [.trunkOverflow] none s t)

/-- The reply queue of a side, with a reply at its tail. -/
def Trunk.withReply (t : Trunk) (side : Side) (words : List Word) : Trunk :=
  match side with
  | .a => { t with sideA := { t.sideA with replies := t.sideA.replies ++ [words] } }
  | .b => { t with sideB := { t.sideB with replies := t.sideB.replies ++ [words] } }

/-- The STORE_TRIM replies that wait for room on a side, in their order (R154). -/
def State.waitingTrims (s : State) (side : Side) : List Reply := s.mgmt.trimReplies.filter (fun r => r.side == side)

/-- The management unit is ready and the head of its queue is a TRUNK_RESET, so that it takes it at once (R166). -/
def State.ResetNext (s : State) : Prop :=
  s.mgmt.held = none ∧ ∃ r rest, s.mgmt.queue = r :: rest ∧ r.kind = .control .trunkReset

/-- The management unit is ready and its queue's head is a request of a kind (R166). -/
structure State.Asked (s : State) (k : RequestKind) (r : Request) (rest : List Request) : Prop where
  running : s.inReset = false
  ready : s.mgmt.held = none
  head : s.mgmt.queue = r :: rest
  kind : r.kind = k

/-- The management unit after a MGMT packet is handed to it: at its queue's tail, or counted where the queue holds
four (R165). -/
def Management.afterArrival (m : Management) (side : Side) (words : List Word) : Management :=
  if m.queue.length < 4 then { m with queue := m.queue ++ [{ side := side, words := words }] }
  else { m with discards := min 65535 (m.discards + 1) }

/-- The request at the head of the management queue has left it. -/
def State.asTaken (s : State) (rest : List Request) : State := { s with mgmt := { s.mgmt with queue := rest } }

/-- `t` is `u` with the reply to `r` handed over: nothing for a broadcast; at the tail of its side's reply queue where
that has room and no STORE_TRIM reply waits; otherwise held by the management unit (R154, R166, R179). -/
def Replied (r : Request) (f : Finding) (u t : State) : Prop :=
  if r.broadcast = true then t = u
  else if (u.port r.side).replies.length < 4 ∧ u.trimWaits r.side = false then
    t = { u with trunk := u.trunk.withReply r.side (u.replyPacket r.replyTo f).words }
  else t = { u with mgmt := { u.mgmt with held := some (u.replyPacket r.replyTo f) } }

/-! ## Boundary events and applies (R54, R60, R61) -/

/-- A cadence unit with its anchor set to a house time, and the boundary computed from that house time (R53, R57, R60, R61):
the next frame's start as target, B its inverse, STEPPED set, and no anchor pending. -/
def AnchoredAt (p : Profile) (h : Nat) (c c' : Cadence) : Prop :=
  ∃ target, target = (forward p h h / p.rate.period + 1) * p.rate.period
    ∧ c' = { c with
        anchor := h, target := target, boundary := inverse p h target, stepped := true, pendingAnchor := false }

/-- The profile `p` reaches the line of a drop that stays enabled, `old` being in force before (R98): a change of line
function, clocking or line rate aborts a transmission and empties the shift register; a change to PART clocking with the
holding register full starts a wait; DEVICE clocking and NONE end one; NONE empties the slot and the queue, and so does
frame feed turned off the slot. -/
def LineTakes (old p : Profile) (l l' : Line) : Prop :=
  ∃ changed : Bool,
    (changed = true ↔ p.lineFunction ≠ old.lineFunction ∨ p.clocking ≠ old.clocking ∨ p.lineRate ≠ old.lineRate)
    ∧ l' = { l with
        shift := if changed then .hunting else l.shift,
        receiveStall := if changed then 0 else l.receiveStall,
        transmission := if changed then none else l.transmission,
        transmitStall := if changed = true ∧ l.transmission ≠ none then 0 else l.transmitStall,
        activity := if p.lineFunction = old.lineFunction then l.activity else false,
        slot := if p.lineFunction = .packet ∧ p.frameFeed = true then l.slot else none,
        copyQueue := if p.lineFunction = .packet then l.copyQueue else [],
        wait := p.lineFunction == .packet && p.clocking == .part && (l.wait || (changed && l.holding != none)),
        counters := { l.counters with
          transmitAborts := if changed = true ∧ l.transmission ≠ none then min 65535 (l.counters.transmitAborts + 1)
            else l.counters.transmitAborts,
          waits := if changed = true ∧ p.lineFunction = .packet ∧ p.clocking = .part ∧ l.holding ≠ none ∧ l.wait = false
            then min 65535 (l.counters.waits + 1) else l.counters.waits } }

/-- A DF line takes the function `f`, `old` being in force before (R64, R65): PULSE waits low for a boundary event; HOLD
keeps the level the line has; a function that was in force goes on. -/
def DfTakes (old f : DfFunction) (x y : DfLine) : Prop :=
  match f with
  | .pulse => if old = .pulse then y = x else y = { x with level := false, pulseEnd := none }
  | .word => y = { x with pulseEnd := none }
  | .hold => if old = .hold then y = x else y = { x with held := x.level, pulseEnd := none }
  | .low => y = { x with level := false, pulseEnd := none }
  | .high => y = { x with level := !x.waitsForBoundary, pulseEnd := none }

/-- An enabled profile `p` applies to drop `d`, which stays enabled, `old` being in force before (R60 step 3, R64, R98,
R134, R138; in the order of notes/assumptions/17.md): the drop is anchored at house time; a drop whose role stops being EDIT leaves the sets of the items that its
queue does not hold; and its queue is filled. -/
def GoesOnUnder (d : DropId) (old p : Profile) (s t : State) : Prop :=
  ∃ (x : Drop) (u : State),
    x.profile = p ∧ x.take = (s.drop d).take ∧ AnchoredAt p s.clock.time (s.drop d).cadence x.cadence
    ∧ LineTakes old p (s.drop d).line x.line ∧ DfTakes old.dfFunction p.dfFunction (s.drop d).df x.df
    ∧ (if old.role = .edit ∧ p.role ≠ .edit then
        SetsChange (fun h => if h.serial ∈ x.line.copyQueue then h else { h with drops := h.drops &&& ~~~(maskOf d) })
          (s.updDrop d (fun _ => x)) u
      else u = s.updDrop d (fun _ => x))
    ∧ OnlyDrop d u t ∧ t.FilledFrom d x

/-- A profile that is not enabled applies to drop `d` (R60 step 4, R64, R100, R108, R138): its lines end and are emptied, its
packets in the holding register and at the intake are flushed, DF goes low, no anchor stays pending, and the drop leaves
every delivery set. That its shift register hunts, where it was resynchronising too, is the model's choice
(notes/assumptions/32.md). -/
def BecomesDisabled (d : DropId) (s t : State) : Prop :=
  ∃ (l : Line) (c : DropCounters) (atIntake : Bool), l = (s.drop d).line ∧ c = l.counters
    ∧ (atIntake = true ↔ s.intake.inProcess.map InProcess.source = some d)
    ∧ SetsChange (fun h => { h with drops := h.drops &&& ~~~(maskOf d) })
        ({ s with intake := { s.intake with inProcess := if atIntake then none else s.intake.inProcess } }.updDrop d
          (fun x => { x with
            cadence := { x.cadence with pendingAnchor := false },
            df := { x.df with level := false, pulseEnd := none, waitsForBoundary := false },
            line := { l with
              state := .disabled, shift := .hunting, receiveStall := 0, holding := none, wait := false, slot := none,
              copyQueue := [], transmission := none,
              transmitStall := if l.transmission = none then l.transmitStall else 0,
              counters := { c with
                transmitAborts := if l.transmission = none then c.transmitAborts else min 65535 (c.transmitAborts + 1),
                flushed :=
                  if l.holding = none then (if atIntake then min 65535 (c.flushed + 1) else c.flushed)
                  else if atIntake then min 65535 (min 65535 (c.flushed + 1) + 1) else min 65535 (c.flushed + 1) } } }))
        t

/-- A change that R59 guards. -/
def GuardedChange (x y : Profile) : Prop :=
  x.rate ≠ y.rate ∨ x.pull ≠ y.pull ∨ x.offset ≠ y.offset ∨ x.audio ≠ y.audio ∨ x.enabled ≠ y.enabled

/-- Drop `d` with the profile `p` in force and none pending. -/
def State.withProfile (s : State) (d : DropId) (p : Profile) : State :=
  s.updDrop d (fun x => { x with profile := p, cadence := { x.cadence with pendingProfile := none } })

/-- The pending profile `p` applies to drop `d` (R60): it comes into force; where it changes a guarded field of a ROLLING
take, the take closes REPROFILE with its synthesized CUT; and the drop goes on under it or becomes DISABLED. -/
def ProfileApplies (d : DropId) (p : Profile) (s t : State) : Prop :=
  ∃ u,
    ((s.drop d).take.state = .rolling ∧ GuardedChange (s.drop d).profile p →
      ClosesWithCut d .reprofile (s.drop d).profile (s.drop d).cadence.anchor (s.withProfile d p) u)
    ∧ (¬ ((s.drop d).take.state = .rolling ∧ GuardedChange (s.drop d).profile p) → u = s.withProfile d p)
    ∧ (if p.enabled = true then GoesOnUnder d (s.drop d).profile p u t else BecomesDisabled d u t)

/-- The FRAME of frame `n`, begun at drop time `time`, as a boundary event composes it (R49, R68, R77, R79). -/
def IsFrame (s : State) (d : DropId) (n time : Nat) (f : Frame) : Prop :=
  ∃ (p : Profile) (l : Label), p = (s.drop d).profile ∧ l = labelOf p.rate.base p.dropFrame n
    ∧ f = { number := n, hours := l.hours, minutes := l.minutes, seconds := l.seconds, frames := l.frames,
            dropFrame := p.dropFrame, userBits := s.userBitsOf d, sample := p.audio.period.map (fun ps => time / ps),
            quality := s.partQuality, stepCount := s.clock.stepCount, scene := s.labels.sceneIndex,
            stepped := (s.drop d).cadence.stepped, skipped := (s.drop d).line.slot.isSome }

/-- A boundary event's hand-over to the DF line, `boundary` the boundary value of the event (R64, R65): a PULSE line with a
width rises until B + W_p, and a line that a drop reset had sent low follows its function again. -/
def EventReachesDf (p : Profile) (boundary : Nat) (waited : Bool) (x y : DfLine) : Prop :=
  y = { x with
    level := match p.dfFunction with
      | .pulse => if p.pulseWidth = 0 then x.level else true
      | .word => x.level
      | .hold => if waited = true then x.held else x.level
      | .low => false
      | .high => true,
    pulseEnd := if p.dfFunction = .pulse ∧ p.pulseWidth ≠ 0 then some (boundary + p.pulseWidth) else x.pulseEnd }

/-- The quiet timer counts at this event: an ACTIVE drop on PACKET without activity and with no stamp under way (R96). -/
def State.QuietCounts (s : State) (d : DropId) : Prop :=
  (s.drop d).line.state = .active ∧ (s.drop d).profile.lineFunction = .packet ∧ (s.drop d).line.activity = false
    ∧ s.stampUnderWay d = false

/-- The quiet timer reaches a quiet limit other than 0 at this event (R96). -/
def State.DormancyDue (s : State) (d : DropId) : Prop :=
  s.QuietCounts d ∧ (s.drop d).profile.quietLimit ≠ 0
    ∧ (s.drop d).profile.quietLimit ≤ min 255 ((s.drop d).line.quietTimer + 1)

/-- Drop `d` goes DORMANT (R97, R118): counted, with no FRAME left in the slot; a ROLLING take closes LOST with its
synthesized CUT under the profile and anchor given, and TAKE_LOST is latched with the drop named. -/
def GoesDormant (d : DropId) (p : Profile) (anchor : Int) (s t : State) : Prop :=
  ∃ u, u = s.updDrop d (fun x => { x with line := { x.line with
        state := .dormant, slot := none,
        counters := { x.line.counters with dormancies := min 65535 (x.line.counters.dormancies + 1) } } })
    ∧ ((s.drop d).take.state = .idle → t = u)
    ∧ ((s.drop d).take.state = .rolling → ∃ v, ClosesWithCut d .lost p anchor u v
        ∧ t = { v with reports := t.reports } ∧ LatchedExactly [.takeLost] (some d) v t)

/-- Steps 2 to 4 of a boundary event but for a dormancy (R54, R79, R90, R91, R96): frame `n`, begun at drop time `time`,
fills the slot where the drop takes FRAMEs, with SKIPPED where it replaces one; the DF line has its part; the quiet timer is
cleared by activity, kept by a stamp under way, and counts otherwise; `n` is the last frame number and STEPPED is clear. -/
def FrameBegins (d : DropId) (n time boundary : Nat) (waited : Bool) (s t : State) : Prop :=
  ∃ (f : Frame) (p : Profile) (l : Line), IsFrame s d n time f ∧ p = (s.drop d).profile ∧ l = (s.drop d).line
    ∧ OnlyDrop d s t ∧ (t.drop d).profile = p ∧ (t.drop d).take = (s.drop d).take
    ∧ (t.drop d).cadence = { (s.drop d).cadence with lastFrame := n, stepped := false }
    ∧ EventReachesDf p boundary waited (s.drop d).df (t.drop d).df
    ∧ (t.drop d).line = { l with
        slot := if p.frameFeed = true ∧ l.state = .active ∧ p.lineFunction = .packet then some f else l.slot,
        counters := { l.counters with
          skips := if p.frameFeed = true ∧ l.state = .active ∧ p.lineFunction = .packet ∧ l.slot ≠ none
            then min 65535 (l.counters.skips + 1) else l.counters.skips },
        activity := if l.state = .active ∧ p.lineFunction = .packet then false else l.activity,
        quietTimer := if l.state = .active ∧ p.lineFunction = .packet then
            if l.activity = true then 0
            else if s.stampUnderWay d = true then l.quietTimer else min 255 (l.quietTimer + 1)
          else l.quietTimer }

/-- Steps 2 to 4 of a boundary event: the drop goes DORMANT exactly where its quiet timer reaches its quiet limit (R96, R97),
a synthesized CUT of that dormancy being formed under the profile and anchor given (R118). -/
def EventEnds (d : DropId) (n time boundary : Nat) (waited : Bool) (p : Profile) (anchor : Int) (s t : State) : Prop :=
  ∃ u, FrameBegins d n time boundary waited s u
    ∧ (¬ s.DormancyDue d → t = u)
    ∧ (s.DormancyDue d → GoesDormant d p anchor u t)

/-! ## The READ commands (R171) -/

/-- The command that takes a READ of a table. -/
def readCommand : Table → Instr
  | .part => .readPart
  | .profile => .readProfile
  | .region => .readRegion
  | .route => .readRoute
  | .userBits => .readUserBits
  | .trackerStatus => .readTrackerStatus
  | .dropStatus => .readDropStatus
  | .storeStatus => .readStoreStatus
  | .trunkStatus => .readTrunkStatus
  | .ident => .readIdent

/-- The record that a READ of a table at an index returns. -/
def State.tableRecord (s : State) (t : Table) (i : Nat) : List Word :=
  match t with
  | .part => s.part.words
  | .profile => s.profileWords (dropOf i)
  | .region => (s.region (regionOf i)).words
  | .route => (s.route (routeOf i)).words
  | .userBits => digitWords (s.labels.entry i)
  | .trackerStatus => s.trackerStatus
  | .dropStatus => s.dropStatus (dropOf i)
  | .storeStatus => s.storeStatus (regionOf i)
  | .trunkStatus => s.trunkStatus
  | .ident => s.ident

end Sys2Proof.Machine
end

