-- ==== Sys2Proof/Certificates/Slice0/Obligations.lean ====
section
/-! DEFINITION. The statements for the provers, one definition each, in the order of the manual's chapters. The
definitions they use beside the model's own stand in Safety.lean. -/

open Sys2Proof Sys2Proof.Machine

/-! ## Steps, reset and power-on -/

/-- The command at the front of the queue is carried out with the queue's rest, and an empty queue leaves the part as it
is (the second clause is the model's choice: notes/assumptions/2.md). -/
def Obligations.StepTakesFrontCommand : Prop :=
  (∀ (c : Instr) (rest : List Instr) (s : State),
    step { s with pending := c :: rest } = exec c { s with pending := rest })
  ∧ ∀ s : State, s.pending = [] → step s = .next s

/-- The state at the end of a power-on reset, block by block (R1, R4, R22, R26, R45, R52, R64, R67, R85, R92, R96, R100,
R103, R107, R114, R122, R126, R129, R146, R152, R154, R158, R162, R163, R165, R188). Of it these are the model's choice, not
the manual's: the trim value 0, and with it c and A, and the station strapped 0 (notes/assumptions/1.md); no frame waiting,
no packet held, no wait, no activity, stall counts of 0, and a low level held for HOLD (notes/assumptions/31.md). The two
expiry flags are the model's own (notes/assumptions/9.md). -/
def Obligations.ResetStateAsGiven : Prop :=
  State.reset.inReset = false ∧ State.reset.pending = []
  ∧ State.reset.clock =
      { time := 0, fraction := 0, correction := 0, divider := 0, stepCount := 0, receivedHop := 0, anyArrival := false }
  ∧ State.reset.house = { rate := .fps24000over1001, pendingRate := none, boundary := 8008000 }
  ∧ State.reset.trim = { value := 0, write := none }
  ∧ State.reset.tracker =
      { state := .acquire, drift := 0, lastError := 0, lastInterval := 0, lockCount := 0, outlierCount := 0,
        missingTime := 0, expiryDue := false, firstArrival := true, forceJam := false, hold := false,
        heldFromAcquire := false, guardFlag := false, upstream := .unreferenced }
  ∧ State.reset.part =
      { propShift := 1, intShift := 4, lockWindow := 960, stepThreshold := 9600000, nLock := 8, nOut := 3, lMiss := 5,
        slewPpm := 200, jamPolicy := .guarded, trunkDelay := 0, causeEnables := 0#12, timingEnable := false,
        trafficEnable := false, holdoff := 4 }
  ∧ (∀ d, (State.reset.drop d).profile =
        { enabled := false, role := .monitor, clapCapable := false, rate := .fps24000over1001, dropFrame := false,
          pull := .none, offset := 0, audio := .none, dfFunction := .pulse, pulseWidth := 960000,
          userBitsSource := .fixed, fixedBits := #v[0, 0, 0, 0, 0, 0, 0, 0], frameFeed := true,
          lineFunction := .packet, clocking := .part, lineRate := .mbit2, quietLimit := 0, stampWindow := 12 }
      ∧ (State.reset.drop d).cadence =
          { anchor := 0, target := 0, boundary := 0, lastFrame := 0, pendingProfile := none, pendingAnchor := false,
            stepped := false }
      ∧ (State.reset.drop d).df = { level := false, pulseEnd := none, held := false, waitsForBoundary := false }
      ∧ (State.reset.drop d).line =
          { state := .disabled, shift := .hunting, receiveStall := 0, holding := none, slot := none, copyQueue := [],
            transmission := none, transmitStall := 0, wait := false, quietTimer := 0, activity := false,
            counters :=
              { received := 0, checkFailures := 0, malformed := 0, overruns := 0, waits := 0, framesSent := 0,
                skips := 0, copiesSent := 0, transmitAborts := 0, dormancies := 0, wakes := 0, flushed := 0,
                roleRefusals := 0, unassignedDiscards := 0 } }
      ∧ (State.reset.drop d).take =
          { state := .idle, number := 0, rollTime := 0, rollSerial := 0, clapCount := 0, rebased := false,
            lastClose := .none, counter := 0 })
  ∧ State.reset.intake = { lastServed := 7, inProcess := none }
  ∧ State.reset.labels.sceneIndex = 0 ∧ (∀ i < 64, State.reset.labels.entry i = #v[0, 0, 0, 0, 0, 0, 0, 0])
  ∧ (∀ i : RegionId, i ≠ passRegion → State.reset.region i =
      { assigned := false, base := 0, size := 8, policy := .refuse, items := [], accepted := 0, retired := 0,
        discarded := 0 })
  ∧ State.reset.region passRegion =
      { assigned := true, base := 448, size := 64, policy := .replaceOldest, items := [], accepted := 0, retired := 0,
        discarded := 0 }
  ∧ State.reset.store.serial = 0 ∧ State.reset.store.passUnassigned = 0 ∧ State.reset.store.syncNumber = 0
  ∧ (∀ side, State.reset.port side =
      { receiver := { condition := .hunting, capture := 0 }, replies := [],
        counters := { received := 0, checkFailures := 0, malformed := 0, misdirected := 0, hopLimit := 0, filtered := 0,
                      transmitted := 0 } })
  ∧ State.reset.trunk.upFifo = [] ∧ State.reset.trunk.downFifo = [] ∧ State.reset.trunk.reportSlot = none
  ∧ State.reset.trunk.timeSlot = none ∧ State.reset.trunk.transmissionA = none
  ∧ State.reset.trunk.transmissionB = none ∧ State.reset.trunk.upOverflow = 0 ∧ State.reset.trunk.downOverflow = 0
  ∧ State.reset.trunk.station = 0#6
  ∧ (∀ i : RouteId, State.reset.route i =
      { valid := false, kind := 0#2, up := false, base := 0, size := 1, copyMask := 0#8 })
  ∧ State.reset.mgmt = { queue := [], held := none, trimReplies := [], discards := 0 }
  ∧ State.reset.reports = { State.reset.reports with
      gateOpen := true, timerRunning := false, timerCount := 0, expiryDue := false }
  ∧ ∀ c, State.reset.latchOf c = { pending := false, drops := 0#8, count := 0 }

/-- Every one of the nine laws of Safety.lean (its section 'The laws of the manual') holds right after reset. -/
def Obligations.LawsHoldAtReset : Prop :=
  State.reset.TimeBounded ∧ State.reset.GuardTrue ∧ State.reset.DropLaw ∧ State.reset.RolledByNow
    ∧ State.reset.WithinPlaces ∧ State.reset.RegionsFit ∧ State.reset.Conserved ∧ State.reset.RoutesApart
    ∧ State.reset.DeliveryLaw

/-- POWER_ON, in any state: power-on reset begins, the stored trim value is kept and a write in flight abandoned
(R13, R16), neither trunk side sends, every DX is high, every DF low and every DK not driven, and the rest is as
State.reset has it (R193). That the rest stands there from POWER_ON on is an inference of the model's
(notes/assumptions/22.md), and State.reset's A, c and station are its choice (notes/assumptions/1.md). -/
def Obligations.PowerOnKeepsOnlyTrim : Prop :=
  ∀ s : State, ∃ t, exec .powerOn s = .next t
    ∧ t.inReset = true ∧ t.trim = { value := s.trim.value, write := none } ∧ t.pending = s.pending
    ∧ t.trunk.transmissionA = none ∧ t.trunk.transmissionB = none ∧ (∀ side, t.trunkDrive side = .idle)
    ∧ (∀ d, (t.drop d).dx = .high ∧ (t.drop d).dk = .notDriven ∧ (t.drop d).df.level = false)
    ∧ { t with inReset := false, trim := State.reset.trim, pending := [] } = State.reset

/-- POWER_ON_RESET_END, which comes while power-on reset lasts: A and c take the trim value limited to ±6,710,886, the
cell keeps its value (R14), the station is latched (R161), and the divider starts from 0 (R193). -/
def Obligations.PowerOnResetEndLoadsTrim : Prop :=
  ∀ (s : State) (stn : BitVec 6), s.inReset = true →
    exec (.powerOnResetEnd stn) s = .next
      { s with
        inReset := false,
        clock := { s.clock with correction := max (-6710886) (min 6710886 s.trim.value), divider := 0 },
        tracker := { s.tracker with drift := max (-6710886) (min 6710886 s.trim.value) },
        trunk := { s.trunk with station := stn } }

/-! ## House time and the tracker -/

/-- EPOCH (R1, R20, R87, R94): the increment 4,000 × 2^24 + c is added exactly to H and F together, the missing-TIME timer
counts unless HOLD is set, and an expiry not yet taken stays due; the stall counts of DEVICE-clocked lines count, and nothing
else changes. That the stall counts stop at 48 is the model's choice (notes/assumptions/20.md), and the expiry flag is its own
(notes/assumptions/9.md). -/
def Obligations.EpochAdvancesHouseClock : Prop :=
  ∀ s : State, s.inReset = false → s.clock.fraction < 16777216 →
    -67108864 ≤ s.clock.correction → s.clock.correction ≤ 67108864 → s.clock.time + 4004 < 2 ^ 64 →
    ∃ t, exec .epoch s = .next t
      ∧ t = { s with clock := t.clock, tracker := t.tracker, drops := t.drops }
      ∧ t.clock = { s.clock with time := t.clock.time, fraction := t.clock.fraction, divider := 0 }
      ∧ (t.clock.time : Int) * 16777216 + t.clock.fraction
          = s.clock.time * 16777216 + s.clock.fraction + 67108864000 + s.clock.correction
      ∧ t.clock.fraction < 16777216
      ∧ (s.tracker.hold = true → t.tracker = s.tracker)
      ∧ (s.tracker.hold = false →
          t.tracker = { s.tracker with
            missingTime := min 1048575 (s.tracker.missingTime + 1),
            expiryDue := s.tracker.expiryDue || decide (s.part.lMiss * (s.house.rate.period / 4000)
              ≤ min 1048575 (s.tracker.missingTime + 1)) })
      ∧ ∀ d, t.drop d = { s.drop d with line :=
            { (s.drop d).line with
              receiveStall := (t.drop d).line.receiveStall, transmitStall := (t.drop d).line.transmitStall } }
          ∧ ((s.drop d).profile.clocking = .device → (s.drop d).line.shift = .receiving →
              (t.drop d).line.receiveStall = min 48 ((s.drop d).line.receiveStall + 1))
          ∧ ((s.drop d).profile.clocking = .device → (s.drop d).line.transmission ≠ none →
              (t.drop d).line.transmitStall = min 48 ((s.drop d).line.transmitStall + 1))

/-- R2, short of the end of the 64-bit count, for every state within the bounds that TimeBoundsKept keeps: an epoch
advances H by 3,996 to 4,004 ticks, by exactly these at the ends of c, and c is within ±67,108,864. -/
def Obligations.EpochAdvanceWithinLimits : Prop :=
  ∀ s : State, s.TimeBounded → s.inReset = false → s.clock.time + 4004 < 2 ^ 64 →
    ∃ t, exec .epoch s = .next t ∧ s.clock.time + 3996 ≤ t.clock.time ∧ t.clock.time ≤ s.clock.time + 4004
      ∧ -67108864 ≤ s.clock.correction ∧ s.clock.correction ≤ 67108864 ∧ t.clock.correction = s.clock.correction
      ∧ (s.clock.correction = 67108864 → t.clock.time = s.clock.time + 4004)
      ∧ (s.clock.correction = -67108864 → t.clock.time = s.clock.time + 3996)

/-- HOUSE_BOUNDARY_EVENT once H has reached B_h (R5, R7, R8, R9, R184): the holdoff timer counts if it runs, a pending rate
is adopted, B_h becomes the first multiple of the period above H, and the TIME slot takes a packet, replacing an unsent
one. A count that reaches the holdoff makes the expiry due, and a count below it leaves that flag, which is the model's own
(notes/assumptions/9.md), as it was. That the count stops at 255 is the model's choice (notes/assumptions/34.md). -/
def Obligations.HouseBoundaryEvent : Prop :=
  ∀ s : State, s.inReset = false → s.house.boundary ≤ s.clock.time →
    ∃ t, exec .houseBoundaryEvent s = .next t
      ∧ t = { s with house := t.house, trunk := t.trunk, reports := t.reports }
      ∧ t.house.rate = s.house.pendingRate.getD s.house.rate ∧ t.house.pendingRate = none
      ∧ t.house.rate.period ∣ t.house.boundary ∧ s.clock.time < t.house.boundary
      ∧ t.house.boundary ≤ s.clock.time + t.house.rate.period
      ∧ (∃ q : Quality, q.code = max s.tracker.state.grade.code s.tracker.upstream.code
          ∧ t.trunk =
              { s.trunk with
                timeSlot := some
                  { rate := t.house.rate,
                    hop := if s.tracker.state = .acquire ∨ s.clock.anyArrival = false then 1
                      else s.clock.receivedHop + 1,
                    quality := q } })
      ∧ (s.reports.timerRunning = false → t.reports = s.reports)
      ∧ (s.reports.timerRunning = true →
          t.reports = { s.reports with
            timerCount := min 255 (s.reports.timerCount + 1), expiryDue := t.reports.expiryDue }
          ∧ (s.part.holdoff ≤ min 255 (s.reports.timerCount + 1) → t.reports.expiryDue = true)
          ∧ (min 255 (s.reports.timerCount + 1) < s.part.holdoff → t.reports.expiryDue = s.reports.expiryDue))

/-- MISSING_TIME_EXPIRY, once the timer has expired in TRACK, LOCKED or SLEW (R30): FREEWHEEL with c made A, both counts 0
and the first-arrival flag set; REF_LOST is latched, and LOCK_LOST if the state was LOCKED; the upstream quality and a
pending FORCE_JAM stay, and the part quality is FREEWHEEL or worse. A disciplining arrival taken after the epoch of the expiry
finds the tracker in that FREEWHEEL and is taken under its rule, MISSING_TIME_EXPIRY taken before it or not (R20). -/
def Obligations.MissingTimeExpiryFreewheels : Prop :=
  ∀ s : State, s.inReset = false → s.ExpiryActs →
    ∃ t, exec .missingTimeExpiry s = .next t
      ∧ t = { s with
          clock := { s.clock with correction := s.tracker.drift },
          tracker := { s.tracker with
            state := .freewheel, lockCount := 0, outlierCount := 0, firstArrival := true, expiryDue := false },
          reports := t.reports }
      ∧ LatchedExactly (if s.tracker.state = .locked then [.refLost, .lockLost] else [.refLost]) none s t
      ∧ t.tracker.upstream = s.tracker.upstream ∧ t.tracker.forceJam = s.tracker.forceJam
      ∧ (t.partQuality = .freewheel ∨ t.partQuality = .unreferenced)
      ∧ ∀ words, s.TimeIn words → s.tracker.hold = false → timeQuality words ≠ .unreferenced →
          exec (.trunkPacketComplete .a words) s = exec (.trunkPacketComplete .a words) t

/-- Every disciplining TIME arrival that jams (R11, R27, R31, R32, R34, R35, R38, R56, R65, R119): in ACQUIRE whatever its
error; in any state with a FORCE_JAM pending; and, unless a take is ROLLING under GUARDED, at a step decision and in SLEW
beyond the step threshold. The new house time is H + e, or 0 if that is below 0; a jam that ends SLEW makes c A; and the
house cadence and every drop take their part of the announcement. An anchor shifted below house zero stays negative, an
inference of the model's (notes/assumptions/19.md). -/
def Obligations.AcquireArrivalJams : Prop :=
  ∀ (s : State) (words : List Word) (e : Int) (h : Nat), s.Disciplines words e → s.Jams e →
    (h : Int) = max 0 (s.clock.time + e) → h < 2 ^ 64 →
    ∃ u t, u = s.afterTime words ∧ exec (.trunkPacketComplete .a words) s = .next t
      ∧ t = { u with
          clock := { u.clock with
            time := h, fraction := 0, stepCount := (s.clock.stepCount + 1) % 65536,
            correction := if s.tracker.state = .slew then s.tracker.drift else s.clock.correction },
          house := { u.house with boundary := (h / s.house.rate.period + 1) * s.house.rate.period },
          tracker := { u.tracker with
            state := .track, lastError := e, lockCount := 0, outlierCount := 0, missingTime := 0, expiryDue := false,
            firstArrival := false, forceJam := false },
          drops := t.drops, reports := t.reports }
      ∧ LatchedExactly (.timeStep :: s.lockLost ++ s.qualityCauses words) none s t
      ∧ ∀ d, JamReaches s.clock.time h (s.drop d) (t.drop d)

/-- Every disciplining arrival that makes a loop update (R21, R24, R28, R29, R32, R33), no FORCE_JAM pending: TRACK and LOCKED
up to the step threshold, SLEW up to the lock window, FREEWHEEL up to the step threshold. Within the lock window TRACK and
LOCKED count, and a TRACK that has counted N_lock is LOCKED; every other loop update leads to TRACK with both counts at 0.
`n` is N_int, and `q`, `a` and `c` are the numbers of R24 in their order. -/
def Obligations.LockedArrivalRunsLoop : Prop :=
  ∀ (s : State) (words : List Word) (e q a c : Int) (n : Nat) (counts gained : Bool), s.Disciplines words e →
    s.tracker.forceJam = false →
    ((s.tracker.state = .track ∨ s.tracker.state = .locked ∨ s.tracker.state = .freewheel)
        ∧ e.natAbs ≤ s.part.stepThreshold)
      ∨ (s.tracker.state = .slew ∧ e.natAbs ≤ s.part.lockWindow) →
    n = (if s.tracker.firstArrival = true then s.house.rate.period / 4000
      else max 1 (min 65535 s.tracker.missingTime)) →
    q = max (-2147483647) (min 2147483647 (Int.tdiv (e * 16777216) n)) →
    a = max (-6710886) (min 6710886 (s.tracker.drift + Int.tdiv q (2 ^ s.part.intShift))) →
    c = max (-6710886) (min 6710886 (a + Int.tdiv q (2 ^ s.part.propShift))) →
    (counts = true ↔ (s.tracker.state = .track ∨ s.tracker.state = .locked) ∧ e.natAbs ≤ s.part.lockWindow) →
    (gained = true ↔ counts = true ∧ s.tracker.state = .track
      ∧ s.part.nLock ≤ min 255 (s.tracker.lockCount + 1)) →
    ∃ u t, u = s.afterTime words ∧ exec (.trunkPacketComplete .a words) s = .next t
      ∧ t = { u with
          clock := { u.clock with correction := c },
          tracker := { u.tracker with
            state := if gained = true ∨ (counts = true ∧ s.tracker.state = .locked) then .locked else .track,
            drift := a, lastError := e, lastInterval := n,
            lockCount := if counts = true then min 255 (s.tracker.lockCount + 1) else 0, outlierCount := 0,
            missingTime := 0, expiryDue := false, firstArrival := false },
          reports := t.reports }
      ∧ LatchedExactly
          ((if gained = true then [.lockGained] else []) ++ (if counts = true then [] else s.lockLost)
            ++ s.qualityCauses words) none s t

/-- The arrivals that neither jam nor run the loop. With a take ROLLING under GUARDED and no FORCE_JAM pending, an arrival
outside ACQUIRE never moves house time (R31, R32); a step decision then enters SLEW, at +L_slew or −L_slew by the sign of e,
and an arrival in SLEW beyond the lock window sets c so again, unless it jams; a lone outlier of TRACK or LOCKED is counted
(R28, R29); and an UNREFERENCED arrival, or one under HOLD, only hands over its rate, its hop and, while HOLD is clear, its
quality (R17, R42). -/
def Obligations.GuardedArrivalNeverJams : Prop :=
  (∀ (s : State) (words : List Word), s.TimeIn words → s.Guarded → s.tracker.forceJam = false →
    s.tracker.state ≠ .acquire →
    ∃ t, exec (.trunkPacketComplete .a words) s = .next t
      ∧ t.clock.time = s.clock.time ∧ t.clock.fraction = s.clock.fraction
      ∧ t.clock.stepCount = s.clock.stepCount ∧ t.drops = s.drops)
  ∧ (∀ (s : State) (words : List Word) (e c : Int), s.Disciplines words e → s.tracker.forceJam = false →
    c = (if 0 < e then (1 : Int) else -1) * (s.part.slewPpm * 67108864 / 1000 : Nat) →
    (s.Guarded → s.StepDue e →
      ∃ u t, u = s.afterTime words ∧ exec (.trunkPacketComplete .a words) s = .next t
        ∧ t = { u with
            clock := { u.clock with correction := c },
            tracker := { u.tracker with
              state := .slew, lastError := e, lockCount := 0, outlierCount := 0, missingTime := 0, expiryDue := false,
              firstArrival := false },
            reports := t.reports }
        ∧ LatchedExactly (.slewBegin :: s.lockLost ++ s.qualityCauses words) none s t)
    ∧ (s.tracker.state = .slew → s.part.lockWindow < e.natAbs → s.Guarded ∨ e.natAbs ≤ s.part.stepThreshold →
      ∃ u t, u = s.afterTime words ∧ exec (.trunkPacketComplete .a words) s = .next t
        ∧ t = { u with
            clock := { u.clock with correction := c },
            tracker := { u.tracker with
              lastError := e, missingTime := 0, expiryDue := false, firstArrival := false },
            reports := t.reports }
        ∧ LatchedExactly (s.qualityCauses words) none s t)
    ∧ (s.tracker.state = .track ∨ s.tracker.state = .locked → s.part.stepThreshold < e.natAbs →
      min 255 (s.tracker.outlierCount + 1) < s.part.nOut →
      ∃ u t, u = s.afterTime words ∧ exec (.trunkPacketComplete .a words) s = .next t
        ∧ t = { u with
            tracker := { u.tracker with
              lastError := e, outlierCount := min 255 (s.tracker.outlierCount + 1),
              lockCount := if s.tracker.state = .track then 0 else s.tracker.lockCount,
              missingTime := 0, expiryDue := false, firstArrival := false },
            reports := t.reports }
        ∧ LatchedExactly (s.qualityCauses words) none s t))
  ∧ ∀ (s : State) (words : List Word), s.TimeIn words → s.tracker.hold = true ∨ timeQuality words = .unreferenced →
    ∃ u t, u = s.afterTime words ∧ exec (.trunkPacketComplete .a words) s = .next t
      ∧ t = { u with reports := t.reports } ∧ LatchedExactly (s.qualityCauses words) none s t

/-- Every step keeps H, F, the step count, A, c and the slew limit within their bounds (R25, with R1, R10, R22 and
R23). -/
def Obligations.TimeBoundsKept : Prop :=
  ∀ s t : State, s.TimeBounded → step s = .next t → t.TimeBounded

/-- Every step keeps the guard flag true to the take table (R36). -/
def Obligations.GuardFlagKept : Prop :=
  ∀ s t : State, s.GuardTrue → step s = .next t → t.GuardTrue

/-! ## Drop cadence, DF lines and labels -/

/-- R50 and R53: the forward conversion at the inverse of a drop time reaches it, and the inverse is the least house time
that does; and a boundary computed from a house time has the start of the next frame as its target, and lies above that house
time, at the least house time whose forward drop time reaches the target. The second clause keeps the G of the inverse above
0, and the drop time too: at 0 the manual's sentence fails, because R48 takes a negative G as 0
(notes/assumptions/24.md). -/
def Obligations.ConversionsMeet : Prop :=
  (∀ (p : Profile) (anchor : Int) (t : Nat), t ≤ forward p anchor (inverse p anchor t))
  ∧ (∀ (p : Profile) (anchor : Int) (t h : Nat), 0 < t → 0 < (inverse p anchor t : Int) + p.offset →
      h < inverse p anchor t → forward p anchor h < t)
  ∧ ∀ (c : Cadence) (p : Profile) (h : Nat),
      (c.fromHouseTime p h).target = (forward p c.anchor h / p.rate.period + 1) * p.rate.period
      ∧ h < (c.fromHouseTime p h).boundary
      ∧ (c.fromHouseTime p h).target ≤ forward p c.anchor (c.fromHouseTime p h).boundary
      ∧ ∀ x, x < (c.fromHouseTime p h).boundary → forward p c.anchor x < (c.fromHouseTime p h).target

/-- DROP_BOUNDARY_EVENT (R53, R54, R60, R61, R65, R79, R90, R91, R96, R97, R118): with nothing pending the cadence goes from
the old target to the next, and frame (old target / P_f) begins, whose sample is that of the old target, or where the event
carries STEPPED the one at H (notes/assumptions/35.md); a pending profile applies first, and a pending anchor where
no profile is pending, and the frame is then the one that H stands in, and B of the event H; after a profile that is not
enabled nothing more is done. With each of the three the drop goes DORMANT where its quiet timer reaches its quiet limit, and
nowhere else (`EventEnds`). Before a pending profile applies, a line under WORD keeps the level it has at divider count 0
(notes/assumptions/14.md), which is what a HOLD applied here holds. The model's own readings are the hand-over to a line that
a drop reset had sent low (notes/assumptions/13.md), the order within an apply (notes/assumptions/17.md), a disabled drop's
shift register hunting (notes/assumptions/32.md), and the profile and anchor of a LOST CUT, those of before the event
(notes/assumptions/27.md). -/
def Obligations.DropBoundaryEvent : Prop :=
  ∀ (s : State) (d : DropId) (p : Profile) (c : Cadence) (h : Nat) (waited : Bool), s.inReset = false →
    p = (s.drop d).profile → c = (s.drop d).cadence → h = s.clock.time → waited = (s.drop d).df.waitsForBoundary →
    (s.drop d).line.state ≠ .disabled → c.boundary ≤ h →
    (c.pendingProfile = none → c.pendingAnchor = false →
      ∃ u t, exec (.dropBoundaryEvent d) s = .next t
        ∧ u = s.updDrop d (fun x => { x with
            df := { x.df with waitsForBoundary := false },
            cadence := { c with
              target := c.target + p.rate.period, boundary := inverse p c.anchor (c.target + p.rate.period) } })
        ∧ EventEnds d (c.target / p.rate.period) (if c.stepped = true then forward p c.anchor h else c.target)
            c.boundary waited p c.anchor u t)
    ∧ (c.pendingProfile = none → c.pendingAnchor = true →
      ∃ c' u t, exec (.dropBoundaryEvent d) s = .next t ∧ AnchoredAt p h c c'
        ∧ u = s.updDrop d (fun x => { x with df := { x.df with waitsForBoundary := false }, cadence := c' })
        ∧ EventEnds d (forward p h h / p.rate.period) (forward p h h) h waited p c.anchor u t)
    ∧ ∀ p', c.pendingProfile = some p' →
      ∃ v u t, exec (.dropBoundaryEvent d) s = .next t
        ∧ v = s.updDrop d (fun x => { x with
            df := { x.df with level := s.dfLevel d 0, waitsForBoundary := false } })
        ∧ ProfileApplies d p' v u
        ∧ (p'.enabled = true →
            EventEnds d (forward p' h h / p'.rate.period) (forward p' h h) h waited p c.anchor u t)
        ∧ (p'.enabled = false → t = u)

/-- A drop whose quiet timer reaches its quiet limit at a boundary event goes DORMANT (R96, R97, R118, R120): counted, with no
FRAME left in the slot, while its cadence goes on; a ROLLING take closes LOST with its synthesized CUT, the guard is
reassessed, and TAKE_LOST is latched with the drop named. What reaches a line that a drop reset had sent low is a reading of
the model's (notes/assumptions/13.md). -/
def Obligations.QuietDropGoesDormant : Prop :=
  ∀ (s : State) (d : DropId) (p : Profile) (c : Cadence) (l : Line), s.inReset = false → p = (s.drop d).profile →
    c = (s.drop d).cadence → l = (s.drop d).line → s.QuietCounts d → c.boundary ≤ s.clock.time →
    c.pendingProfile = none → c.pendingAnchor = false → p.quietLimit ≠ 0 → p.quietLimit ≤ min 255 (l.quietTimer + 1) →
    ∃ u t, exec (.dropBoundaryEvent d) s = .next t ∧ OnlyDrop d s u
      ∧ (u.drop d).profile = p ∧ (u.drop d).take = (s.drop d).take
      ∧ (u.drop d).cadence = { c with
          target := c.target + p.rate.period, boundary := inverse p c.anchor (c.target + p.rate.period),
          lastFrame := c.target / p.rate.period, stepped := false }
      ∧ EventReachesDf p c.boundary (s.drop d).df.waitsForBoundary
          { (s.drop d).df with waitsForBoundary := false } (u.drop d).df
      ∧ (u.drop d).line = { l with
          state := .dormant, slot := none, quietTimer := min 255 (l.quietTimer + 1),
          counters := { l.counters with
            skips := if p.frameFeed = true ∧ l.slot ≠ none then min 65535 (l.counters.skips + 1) else l.counters.skips,
            dormancies := min 65535 (l.counters.dormancies + 1) } }
      ∧ ((s.drop d).take.state = .idle → t = u)
      ∧ ((s.drop d).take.state = .rolling → ∃ v, ClosesWithCut d .lost p c.anchor u v
          ∧ t = { v with reports := t.reports } ∧ LatchedExactly [.takeLost] (some d) v t)

/-- PULSE_END at or past the pulse end (R65), and WORD_CLOCK_EDGE at divider count `k` (R66, R3): the first lowers the
line, the second gives it the level of the drop's sample clock, and neither changes anything else. At every instant, an
edge taken there or not, the level of an enabled drop's line under WORD is that of the sample clock at that instant's drop
time; every other line has the level it is driven at (R64, R66). That a line which a drop reset has sent low follows its
function again only from the drop's next boundary event is in both; that its level as a function of the instant is not
stored is the model's form (notes/assumptions/14.md). -/
def Obligations.DfLineEdges : Prop :=
  (∀ (s : State) (d : DropId) (k : DividerCount) (follows : Bool), s.clock.time + k.val * 125 / 16 < 2 ^ 64 →
    (follows = true ↔ (s.drop d).line.state ≠ .disabled ∧ (s.drop d).profile.dfFunction = .word
      ∧ (s.drop d).df.waitsForBoundary = false) →
    (follows = false → s.dfLevel d k = (s.drop d).df.level)
    ∧ ∀ ps, (s.drop d).profile.audio.period = some ps → follows = true →
        s.dfLevel d k = decide (forward (s.drop d).profile (s.drop d).cadence.anchor
          (s.clock.time + k.val * 125 / 16) % ps < ps / 2))
  ∧ (∀ (s : State) (d : DropId) (e : Nat), s.inReset = false → (s.drop d).df.pulseEnd = some e → e ≤ s.clock.time →
    ∃ t, exec (.pulseEnd d) s = .next t ∧ OnlyDrop d s t
      ∧ t.drop d = { s.drop d with df := { (s.drop d).df with level := false, pulseEnd := none } })
  ∧ ∀ (s : State) (d : DropId) (k : DividerCount) (ps : Nat), s.inReset = false → (s.drop d).line.state ≠ .disabled →
      (s.drop d).profile.dfFunction = .word → (s.drop d).profile.audio.period = some ps →
      (s.drop d).df.waitsForBoundary = false → s.clock.time + k.val * 125 / 16 < 2 ^ 64 →
      ∃ t, exec (.wordClockEdge d k) s = .next t
        ∧ t = { s with clock := { s.clock with divider := k }, drops := t.drops }
        ∧ (∀ e, e ≠ d → t.drop e = s.drop e)
        ∧ t.drop d = { s.drop d with
            df := { (s.drop d).df with
              level := decide (forward (s.drop d).profile (s.drop d).cadence.anchor
                (s.clock.time + k.val * 125 / 16) % ps < ps / 2) } }

/-- R73's closing sentence, for every label base of the rate table: the label formed from a frame number is in range and
is turned back into its position in the label day, never clamped. R74: a day position resolves to the nearest frame number at
that position, the earlier one of two as near. -/
def Obligations.LabelsRoundTrip : Prop :=
  (∀ (base n : Nat) (dropFrame : Bool), base ∈ [24, 25, 30, 48, 50, 60, 100, 120] →
    (dropFrame = true → base = 30 ∨ base = 60) →
    (labelOf base dropFrame n).inRange base = true
    ∧ (labelOf base dropFrame n).position base dropFrame = (n % dayLength base dropFrame, false))
  ∧ ∀ day m reference n : Nat, m < day → n % day = m →
      resolve day m reference % day = m
      ∧ ((resolve day m reference : Int) - reference).natAbs ≤ ((n : Int) - reference).natAbs
      ∧ (((resolve day m reference : Int) - reference).natAbs = ((n : Int) - reference).natAbs →
          resolve day m reference ≤ n)

/-! ## Drop lines -/

/-- A drop packet abandoned as malformed: DROP_HEADER_MALFORMED (R85), after which the shift register resynchronises, and
DROP_RECEIVE_STALL (R87), after which it hunts; and DROP_RESYNC_END, after which it hunts again. -/
def Obligations.DropPacketAbandoned : Prop :=
  ∀ (s : State) (d : DropId), s.inReset = false → (s.drop d).onLine = true →
    (∀ kind len : Word, (s.drop d).line.shift = .receiving → (s.drop d).line.wait = false →
      dropHeaderOk kind len = false →
      ∃ t, exec (.dropHeaderMalformed d kind len) s = .next t ∧ OnlyDropAndLatches d s t
        ∧ LatchedExactly [.checkError] (some d) s t
        ∧ t.drop d = { s.drop d with line := { (s.drop d).line with
            shift := .resynchronising, receiveStall := 0,
            counters := { (s.drop d).line.counters with
              malformed := min 65535 ((s.drop d).line.counters.malformed + 1) } } })
    ∧ ((s.drop d).line.shift = .receiving → (s.drop d).line.wait = false → 48 ≤ (s.drop d).line.receiveStall →
      ∃ t, exec (.dropReceiveStall d) s = .next t ∧ OnlyDropAndLatches d s t
        ∧ LatchedExactly [.checkError] (some d) s t
        ∧ t.drop d = { s.drop d with line := { (s.drop d).line with
            shift := .hunting, receiveStall := 0,
            counters := { (s.drop d).line.counters with
              malformed := min 65535 ((s.drop d).line.counters.malformed + 1) } } })
    ∧ ((s.drop d).line.shift = .resynchronising →
      ∃ t, exec (.dropResyncEnd d) s = .next t ∧ OnlyDrop d s t
        ∧ t.drop d = { s.drop d with line := { (s.drop d).line with shift := .hunting, receiveStall := 0 } })

/-- STAMP_PACKET_COMPLETE (R86, R88, R89): a failed check is counted and latched; a correct packet fills an empty holding
register with its arrival record, and under PART clocking starts a wait; under DEVICE clocking it is an overrun where the
register is full. -/
def Obligations.StampPacketJudged : Prop :=
  ∀ (s : State) (d : DropId) (words : List Word) (l : Line), s.inReset = false → (s.drop d).onLine = true →
    l = (s.drop d).line → l.shift = .receiving → l.wait = false → dropComplete words = true →
    ((s.drop d).profile.clocking = .part → l.holding = none) →
    ∃ t, exec (.stampPacketComplete d words) s = .next t ∧ OnlyDropAndLatches d s t
      ∧ (checkCorrect words = false →
          LatchedExactly [.checkError] (some d) s t
          ∧ t.drop d = { s.drop d with line := { l with
              shift := .hunting, receiveStall := 0,
              counters := { l.counters with checkFailures := min 65535 (l.counters.checkFailures + 1) } } })
      ∧ (checkCorrect words = true → l.holding ≠ none →
          LatchedExactly [.overrun] (some d) s t
          ∧ t.drop d = { s.drop d with line := { l with
              shift := .hunting, receiveStall := 0,
              counters := { l.counters with overruns := min 65535 (l.counters.overruns + 1) } } })
      ∧ (checkCorrect words = true → l.holding = none →
          t.reports = s.reports
          ∧ t.drop d = { s.drop d with line := { l with
              shift := .hunting, receiveStall := 0,
              holding := some { words := words, time := s.clock.time, stepCount := s.clock.stepCount },
              wait := (s.drop d).profile.clocking == .part,
              counters := { l.counters with
                received := min 65535 (l.counters.received + 1),
                waits := if (s.drop d).profile.clocking = .part then min 65535 (l.counters.waits + 1)
                  else l.counters.waits } } })

/-- DROP_ACTIVITY (R95, R99, R85), for a level change on DR, or on DK under DEVICE clocking: the activity flag is set; a
start bit begins reception at a hunting shift register; a DORMANT drop wakes, and its copy queue is filled (R134). -/
def Obligations.ActivityWakes : Prop :=
  ∀ (s : State) (d : DropId) (c : LineChange) (l l' : Line), s.inReset = false → (s.drop d).onLine = true →
    l = (s.drop d).line → (c = .dkRise ∨ c = .dkFall → (s.drop d).profile.clocking = .device) →
    l' = { l with
      activity := true,
      shift := if c = .drStartBit ∧ l.shift = .hunting then .receiving else l.shift,
      receiveStall := if (c = .drStartBit ∧ l.shift = .hunting) ∨ c = .dkRise then 0 else l.receiveStall,
      transmitStall := if c = .dkRise ∨ c = .dkFall then 0 else l.transmitStall } →
    ∃ t, exec (.dropActivity d c) s = .next t ∧ OnlyDrop d s t
      ∧ (l.state = .active → t.drop d = { s.drop d with line := l' })
      ∧ (l.state = .dormant → t.FilledFrom d { s.drop d with line := { l' with
          state := .active, quietTimer := 0, counters := { l.counters with wakes := min 65535 (l.counters.wakes + 1) } } })

/-- LINE_ARBITER_START with DX idle and no wait (R93): the FRAME in the slot goes first and leaves it; otherwise the copy at
the head of the queue, composed from its item as it stands, and staying at the head; otherwise nothing. -/
def Obligations.LineArbiterStart : Prop :=
  ∀ (s : State) (d : DropId) (l : Line), s.inReset = false → (s.drop d).onLine = true → l = (s.drop d).line →
    l.transmission = none → l.wait = false →
    (∀ f, l.slot = some f → ∃ t, exec (.lineArbiterStart d) s = .next t ∧ OnlyDrop d s t
      ∧ t.drop d = { s.drop d with line := { l with
          slot := none, transmission := some (.frame f.packet), transmitStall := 0 } })
    ∧ (∀ n rest h, l.slot = none → l.copyQueue = n :: rest → s.findItem n = some h →
      ∃ t, exec (.lineArbiterStart d) s = .next t ∧ OnlyDrop d s t
        ∧ t.drop d = { s.drop d with line := { l with
            transmission := some (.copy n (copyPacket h)), transmitStall := 0 } })
    ∧ (l.slot = none → l.copyQueue = [] → exec (.lineArbiterStart d) s = .next s)

/-- The ends of a transmission on DX: DROP_TRANSMIT_COMPLETE of a FRAME and of a copy, whose drop leaves the item's set and
whose queue is filled (R93, R134, R135, R137), and DROP_TRANSMIT_STALL under DEVICE clocking, which aborts and leaves the
copy at the head of its queue (R94). -/
def Obligations.DropTransmissionEnds : Prop :=
  ∀ (s : State) (d : DropId) (l : Line), s.inReset = false → l = (s.drop d).line →
    (∀ words, l.transmission = some (.frame words) →
      ∃ t, exec (.dropTransmitComplete d) s = .next t ∧ OnlyDrop d s t
        ∧ t.drop d = { s.drop d with line := { l with
            transmission := none, transmitStall := 0,
            counters := { l.counters with framesSent := min 65535 (l.counters.framesSent + 1) } } })
    ∧ (∀ n words, l.transmission = some (.copy n words) →
      ∃ t, exec (.dropTransmitComplete d) s = .next t
        ∧ SetsChange (fun h => if h.serial = n then { h with drops := h.drops &&& ~~~(maskOf d) } else h) s
            { t with drops := s.drops }
        ∧ (∀ e, e ≠ d → t.drop e = s.drop e)
        ∧ t.FilledFrom d { s.drop d with line := { l with
            transmission := none, transmitStall := 0, copyQueue := l.copyQueue.filter (fun m => m != n),
            counters := { l.counters with copiesSent := min 65535 (l.counters.copiesSent + 1) } } })
    ∧ ((s.drop d).profile.clocking = .device → l.transmission ≠ none → 48 ≤ l.transmitStall →
      ∃ t, exec (.dropTransmitStall d) s = .next t ∧ OnlyDrop d s t
        ∧ t.drop d = { s.drop d with line := { l with
            transmission := none, transmitStall := 0,
            counters := { l.counters with transmitAborts := min 65535 (l.counters.transmitAborts + 1) } } })

/-- Every step keeps each drop to what its state allows (R57, R64, R90, R96, R98, R100, R120), and every ROLLING take's roll
house time at most house time (R100, R115, R119, R120): for states within the time bounds that TimeBoundsKept keeps, further
from the end of house time than one jam can reach. -/
def Obligations.DropLawKept : Prop :=
  (∀ s t : State, s.DropLaw → step s = .next t → t.DropLaw)
  ∧ ∀ s t : State, s.RolledByNow → s.TimeBounded → s.clock.time + 1099511627776 < 2 ^ 64 → step s = .next t →
      t.RolledByNow

/-! ## Stamps and takes -/

/-- INTAKE_TAKE (R107, R88): the packet of the first full holding register, counting on from the drop after the last one
served, goes into process; that register is emptied and its wait ends. -/
def Obligations.IntakeServesInTurn : Prop :=
  ∀ (s : State) (d : DropId) (r : Received) (n : Nat), s.inReset = false → s.intake.inProcess = none → 1 ≤ n → n ≤ 8 →
    d.val = (s.intake.lastServed.val + n) % 8 → (s.drop d).line.holding = some r →
    (∀ e : DropId, ∀ m, 1 ≤ m → m < n → e.val = (s.intake.lastServed.val + m) % 8 → (s.drop e).line.holding = none) →
    ∃ t, exec .intakeTake s = .next t
      ∧ t = { s with intake := { lastServed := d, inProcess := some { source := d, packet := r } }, drops := t.drops }
      ∧ (∀ e, e ≠ d → t.drop e = s.drop e)
      ∧ t.drop d = { s.drop d with line := { (s.drop d).line with holding := none, wait := false } }

/-- INTAKE_COMPLETE of a malformed stamp (R105), and of a well-formed one whose kind the drop's role does not accept
(R106): counted at the drop, and nothing else is reached. Which stamps are malformed, by their payload's fields; and which
kinds each role accepts. -/
def Obligations.IntakeTurnsAway : Prop :=
  (∀ (s : State) (d : DropId) (words : List Word) (w0 w1 w2 : Word), w0 = wordAt (dropPayload words) 0 →
    w1 = wordAt (dropPayload words) 1 → w2 = wordAt (dropPayload words) 2 →
    (s.readStamp d words = none ↔
      bitsOf w0 12 4 ∉ [1, 2, 3, 4, 5] ∨ bitsOf w0 10 2 ∉ [0, 1]
        ∨ (bitsOf w0 9 1 = 1 ∧ wordAt (dropPayload words) 4 = 0#16)
        ∨ (bitsOf w0 10 2 = 1 ∧ (23 < bitsOf w1 8 8 ∨ 59 < bitsOf w1 0 8 ∨ 59 < bitsOf w2 8 8
            ∨ (s.drop d).profile.rate.base ≤ bitsOf w2 0 8))))
  ∧ (∀ (p : Profile) (k : StampKind), p.accepts k = true ↔
      match p.role with
      | .camera => k = .clap → p.clapCapable = true
      | .recorder => k ≠ .clap
      | .slate => k ≠ .roll ∧ k ≠ .cut
      | .edit => ∃ code, k = .mark code
      | .monitor => False)
  ∧ ∀ (s : State) (d : DropId) (r : Received), s.inReset = false →
    s.intake.inProcess = some { source := d, packet := r } →
    (s.readStamp d r.words = none →
      ∃ t, exec .intakeComplete s = .next t
        ∧ t = { s with intake := { s.intake with inProcess := none }, drops := t.drops, reports := t.reports }
        ∧ LatchedExactly [.checkError] (some d) s t ∧ (∀ e, e ≠ d → t.drop e = s.drop e)
        ∧ t.drop d = { s.drop d with line := { (s.drop d).line with counters := { (s.drop d).line.counters with
            malformed := min 65535 ((s.drop d).line.counters.malformed + 1) } } })
    ∧ ∀ x, s.readStamp d r.words = some x → (s.drop d).profile.accepts x.kind = false →
      ∃ t, exec .intakeComplete s = .next t
        ∧ t = { s with intake := { s.intake with inProcess := none }, drops := t.drops }
        ∧ (∀ e, e ≠ d → t.drop e = s.drop e)
        ∧ t.drop d = { s.drop d with line := { (s.drop d).line with counters := { (s.drop d).line.counters with
            roleRefusals := min 65535 ((s.drop d).line.counters.roleRefusals + 1) } } }

/-- The conversion of a stamp and its plausibility check (R110, R111, R112), and what of them its item carries: in FRAME
form the frame carried, in LABEL form the frame that the label's day position resolves to (R73, R74). And the completion of
a MARK and of a META (R75, R109, R113, R117): the item is made and handed to the drop's region, which need not be assigned or
have room (`ItemMade`), with the number of the drop's take while it is ROLLING, and a META first writes the scene index. That
the draw of a serial discards what it makes stale before the item is admitted is a reading of the model's, here and in the
statements that use `ItemMade` or `ItemHanded` (notes/assumptions/11.md). -/
def Obligations.StampTimeJudged : Prop :=
  (∀ (s : State) (d : DropId) (x : DeviceStamp) (r : Received) (p : Profile) (c : Converted) (time away : Nat),
    p = (s.drop d).profile → c = s.convert d x r →
    time = min (2 ^ 64 - 1)
      (inverse p (s.drop d).cadence.anchor (c.frame * p.rate.period + x.subframe * p.rate.period / 256)) →
    away = ((c.frame : Int) - (forward p (s.drop d).cadence.anchor r.time / p.rate.period : Nat)).natAbs →
    (∀ n, x.moment = .frame n → c.frame = n ∧ c.labelClamped = false)
    ∧ (∀ l, x.moment = .label l →
        c.frame = resolve (dayLength p.rate.base p.dropFrame) (l.position p.rate.base p.dropFrame).1
          (forward p (s.drop d).cadence.anchor s.clock.time / p.rate.period)
        ∧ c.labelClamped = (l.position p.rate.base p.dropFrame).2)
    ∧ c.judged =
        (if r.stepCount ≠ s.clock.stepCount then { time := time, unverified := false, preStep := true }
        else if p.stampWindow < away then { time := r.time, unverified := true, preStep := false }
        else { time := time, unverified := false, preStep := false })
    ∧ c.flags = { StampFlags.clear with
        unverified := c.judged.unverified, preStep := c.judged.preStep, labelClamped := c.labelClamped }
    ∧ ∀ flags n, c.item d flags n = .stamp
        { kind := x.kind, sourceDrop := d.val, time := c.judged.time, frame := c.frame, subframe := x.subframe,
          flags := flags, takeNumber := n })
  ∧ ∀ (s : State) (d : DropId) (r : Received) (x : DeviceStamp) (c : Converted) (scene : Nat), s.Accepted d r x →
    (∃ code, x.kind = .mark code) ∧ scene = s.labels.sceneIndex ∨ x.kind = .metaScene scene →
    c = s.convert d x r →
    ∃ u t, exec .intakeComplete s = .next t
      ∧ u = { s with
          intake := { s.intake with inProcess := none }, labels := { s.labels with sceneIndex := scene } }
      ∧ ItemMade d (.stamp
        { kind := x.kind, sourceDrop := d.val, time := c.judged.time, frame := c.frame, subframe := x.subframe,
          flags := c.flags, takeNumber := if (s.drop d).take.state = .rolling then some (s.drop d).take.number else none })
        u t

/-- A ROLL accepted (R113, R115, R118, R120, R129, R130), whatever the drop's region does with the item (`ItemMade`): the take
opens, the guard is on, and the ROLL's item is made under the next serial. On a ROLLING take, that take first closes
SUPERSEDED with its synthesized CUT, which has the ROLL's moment and inherits its flags. -/
def Obligations.RollOpensTake : Prop :=
  ∀ (s : State) (d : DropId) (r : Received) (x : DeviceStamp) (c : Converted) (n : Nat) (opened : Take),
    s.Accepted d r x → x.kind = .roll → c = s.convert d x r →
    n = (match x.takeNumber with
      | some n => n
      | none => if (s.drop d).take.counter ≥ 65535 then 1 else (s.drop d).take.counter + 1) →
    opened = { (s.drop d).take with
      state := .rolling, number := n, counter := n, rollTime := min c.judged.time s.clock.time, clapCount := 0,
      rebased := false } →
    ((s.drop d).take.state = .idle →
      ∃ u t, exec .intakeComplete s = .next t
        ∧ u = { s with
            intake := { s.intake with inProcess := none }, tracker := { s.tracker with guardFlag := true } }.updDrop d
            (fun y => { y with take := { opened with rollSerial := (s.store.serial + 1) % 4294967296 } })
        ∧ ItemMade d (.stamp
          { kind := .roll, sourceDrop := d.val, time := c.judged.time, frame := c.frame, subframe := x.subframe,
            flags := c.flags, takeNumber := some n }) u t)
    ∧ ((s.drop d).take.state = .rolling →
      ∃ u v w t, exec .intakeComplete s = .next t
        ∧ u = { s with intake := { s.intake with inProcess := none } }.updDrop d
            (fun y => { y with take := { y.take with lastClose := .superseded } })
        ∧ ItemMade d (.stamp
          { kind := .cut, sourceDrop := d.val, time := c.judged.time, frame := c.frame, subframe := x.subframe,
            flags := { c.flags with synthetic := true, rebased := (s.drop d).take.rebased },
            takeNumber := some (s.drop d).take.number }) u v
        ∧ w = { v with tracker := { v.tracker with guardFlag := true } }.updDrop d
            (fun y => { y with take := { opened with
              lastClose := .superseded, rollSerial := (s.store.serial + 2) % 4294967296 } })
        ∧ ItemMade d (.stamp
          { kind := .roll, sourceDrop := d.val, time := c.judged.time, frame := c.frame, subframe := x.subframe,
            flags := c.flags, takeNumber := some n }) w t)

/-- A CUT accepted (R113, R116, R120), whatever the drop's region does with the item (`ItemMade`): on a ROLLING take the take
closes CUT, the guard stays on only while another take rolls, and the CUT's item carries the take's number, and REBASED if
the take was so marked; on an IDLE take the record stays, and the item is flagged ORPHAN_CUT and carries the device's number
if present. -/
def Obligations.CutClosesTake : Prop :=
  ∀ (s : State) (d : DropId) (r : Received) (x : DeviceStamp) (c : Converted), s.Accepted d r x →
    x.kind = .cut → c = s.convert d x r →
    ((s.drop d).take.state = .rolling →
      ∃ u t, exec .intakeComplete s = .next t
        ∧ TakeCloses d .cut { s with intake := { s.intake with inProcess := none } } u
        ∧ ItemMade d (.stamp
          { kind := .cut, sourceDrop := d.val, time := c.judged.time, frame := c.frame, subframe := x.subframe,
            flags := { c.flags with rebased := (s.drop d).take.rebased },
            takeNumber := some (s.drop d).take.number }) u t)
    ∧ ((s.drop d).take.state = .idle →
      ∃ t, exec .intakeComplete s = .next t
        ∧ ItemMade d (.stamp
          { kind := .cut, sourceDrop := d.val, time := c.judged.time, frame := c.frame, subframe := x.subframe,
            flags := { c.flags with orphanCut := true }, takeNumber := x.takeNumber })
          { s with intake := { s.intake with inProcess := none } } t)

/-- A CLAP accepted (R113, R121, R122), whatever the drop's region does with its items (`ItemMade`). With at least one
participant the CLAP's item and then the SYNC item are made, under the next two serials; the SYNC item names, in increasing number, every CAMERA or RECORDER
drop whose ROLLING take began by the clap, with its position; the sync number and those takes' clap counts rise. Without
one, the CLAP's item is flagged ORPHAN, SYNC_ORPHAN is latched with the source drop named, and no SYNC item is made. -/
def Obligations.ClapBuildsSync : Prop :=
  ∀ (s : State) (d : DropId) (r : Received) (x : DeviceStamp) (c : Converted) (ds : List DropId) (number : Option Nat),
    s.Accepted d r x → x.kind = .clap → c = s.convert d x r →
    ds = [0, 1, 2, 3, 4, 5, 6, 7].filter (fun e =>
      ((s.drop e).profile.role == .camera || (s.drop e).profile.role == .recorder) && (s.drop e).take.state == .rolling
        && (s.drop e).take.rollTime ≤ c.judged.time) →
    number = (if (s.drop d).take.state = .rolling then some (s.drop d).take.number else none) →
    (ds ≠ [] →
      ∃ u v t, exec .intakeComplete s = .next t
        ∧ ItemMade d (.stamp
          { kind := .clap, sourceDrop := d.val, time := c.judged.time, frame := c.frame, subframe := x.subframe,
            flags := c.flags, takeNumber := number })
          { s with intake := { s.intake with inProcess := none } } u
        ∧ v = { u with
            drops := v.drops, store := { u.store with syncNumber := (s.store.syncNumber + 1) % 65536 } }
        ∧ (∀ e, v.drop e = { u.drop e with take := { (s.drop e).take with
            clapCount := if e ∈ ds then min 65535 ((s.drop e).take.clapCount + 1) else (s.drop e).take.clapCount } })
        ∧ ItemMade d (.sync
          { number := (s.store.syncNumber + 1) % 65536, time := c.judged.time, sourceDrop := d.val,
            unverified := c.judged.unverified, preStep := c.judged.preStep,
            participants := ds.map (fun e =>
              { drop := e.val, takeNumber := (s.drop e).take.number,
                frame := frameOf (s.drop e).profile
                  (forward (s.drop e).profile (s.drop e).cadence.anchor c.judged.time),
                subframe := subframeOf (s.drop e).profile
                  (forward (s.drop e).profile (s.drop e).cadence.anchor c.judged.time),
                samplePresent := (s.drop e).profile.audio != .none,
                sample := ((sampleOf (s.drop e).profile
                  (forward (s.drop e).profile (s.drop e).cadence.anchor c.judged.time)).getD 0) % 2 ^ 48 }) }) v t)
    ∧ (ds = [] →
      ∃ u t, exec .intakeComplete s = .next t
        ∧ ItemMade d (.stamp
          { kind := .clap, sourceDrop := d.val, time := c.judged.time, frame := c.frame, subframe := x.subframe,
            flags := { c.flags with orphan := true }, takeNumber := number })
          { s with intake := { s.intake with inProcess := none } } u
        ∧ t = { u with reports := t.reports } ∧ LatchedExactly [.syncOrphan] (some d) u t)

/-! ## The stamp store -/

/-- R130, for an item whose serial is drawn and whose set is formed: an unassigned region counts it and holds nothing, an
empty set retires it at once, a region with room holds it as its newest item and the copy queues of the drops it names are
filled. And R134, what filling a drop's copy queue does to it in any state. -/
def Obligations.ItemAdmission : Prop :=
  (∀ (s : State) (d : DropId), OnlyDrop d s (s.fill d) ∧ (s.fill d).FilledFrom d (s.drop d))
  ∧ ∀ (s : State) (i : RegionId) (source : Option DropId) (h : Held),
    ((s.region i).assigned = false → source = none →
      s.admitItem i source h =
        { s with store := { s.store with passUnassigned := min 65535 (s.store.passUnassigned + 1) } })
    ∧ (∀ d, (s.region i).assigned = false → source = some d →
      OnlyDrop d s (s.admitItem i source h)
      ∧ (s.admitItem i source h).drop d = { s.drop d with line := { (s.drop d).line with
          counters := { (s.drop d).line.counters with
            unassignedDiscards := min 65535 ((s.drop d).line.counters.unassignedDiscards + 1) } } })
    ∧ ((s.region i).assigned = true → h.up = false → h.drops = 0#8 →
      s.admitItem i source h = { s with store := (s.admitItem i source h).store }
      ∧ (s.admitItem i source h).store = { s.store with regions := (s.admitItem i source h).store.regions }
      ∧ (∀ j, j ≠ i → (s.admitItem i source h).region j = s.region j)
      ∧ (s.admitItem i source h).region i = { s.region i with
          accepted := ((s.region i).accepted + 1) % 4294967296, retired := ((s.region i).retired + 1) % 4294967296 })
    ∧ ((s.region i).RoomFor 1 → h.up = true ∨ h.drops ≠ 0#8 →
      s.admitItem i source h = { s with store := (s.admitItem i source h).store, drops := (s.admitItem i source h).drops }
      ∧ (s.admitItem i source h).store = { s.store with regions := (s.admitItem i source h).store.regions }
      ∧ (∀ j, j ≠ i → (s.admitItem i source h).region j = s.region j)
      ∧ (s.admitItem i source h).region i = { s.region i with
          items := (s.region i).items ++ [h], accepted := ((s.region i).accepted + 1) % 4294967296 }
      ∧ ∀ e, (s.admitItem i source h).FilledIfNamed h.drops e (s.drop e))

/-- An item that meets its region full. Under REFUSE it is discarded (R132); under REPLACE_OLDEST it displaces the first item
of the region that is not in flight, which is the oldest, since a region holds its items oldest first (DeliveryLaw), and is
discarded where every item is in flight (R133). In each case both counters rise and REGION_FULL is latched, naming the
source drop of a drop region and no drop for the pass region; the other items stay. -/
def Obligations.RefusingRegionTurnsAway : Prop :=
  ∀ (s t : State) (i : RegionId) (source : Option DropId) (h : Held) (r : Region),
    (i = passRegion ∧ source = none) ∨ (∃ d, i = dropRegion d ∧ source = some d) → t = s.admitItem i source h →
    r = s.region i → r.assigned = true → h.up = true ∨ h.drops ≠ 0#8 → r.size ≤ r.items.length →
    LatchedExactly [.regionFull] source s t ∧ (∀ j, j ≠ i → t.region j = s.region j)
    ∧ (r.policy = .refuse ∨ (∀ x ∈ r.items, s.InFlight x.serial) →
      t = { s with store := { s.store with regions := t.store.regions }, reports := t.reports }
      ∧ t.region i = { r with
          accepted := (r.accepted + 1) % 4294967296, discarded := (r.discarded + 1) % 4294967296 })
    ∧ ∀ before x after, r.policy = .replaceOldest → r.items = before ++ x :: after →
      (∀ y ∈ before, s.InFlight y.serial) → ¬ s.InFlight x.serial →
      t = { s with drops := t.drops, store := { s.store with regions := t.store.regions }, reports := t.reports }
      ∧ t.region i = { r with
          items := before ++ after ++ [h], accepted := (r.accepted + 1) % 4294967296,
          discarded := (r.discarded + 1) % 4294967296 }
      ∧ ∀ e, t.FilledIfNamed h.drops e (s.drop e)

/-- Every held item whose age has reached 2^31 leaves its region, counted as discarded there, and leaves every copy queue, and
a queue that has lost an entry is filled (R129, R134, R139): at each draw of a serial, with the counter just increased, and
at ITEM_STALE. The other items stay in their order. That the draw itself discards them, and that an entry leaves its queue and
the queue is filled at the discard, are readings of the model's (notes/assumptions/11.md, notes/assumptions/12.md). -/
def Obligations.StaleItemsDiscarded : Prop :=
  ∀ s : State, (s.heldItems.map Held.serial).Nodup →
    (s.inReset = false → ∃ t, exec .itemStale s = .next t ∧ Discards s.staleSerials s t)
    ∧ ∃ u, u = { s with store := { s.store with serial := (s.store.serial + 1) % 4294967296 } }
      ∧ Discards u.staleSerials u s.drawSerial

/-- Every step keeps each region's items and counters in balance (R144). -/
def Obligations.ConservationKept : Prop :=
  ∀ s t : State, s.Conserved → step s = .next t → t.Conserved

/-- Every step keeps the assigned regions apart, within the store's 512 slots, and within their sizes (R126, R128). -/
def Obligations.RegionsFitKept : Prop :=
  ∀ s t : State, s.RegionsFit → step s = .next t → t.RegionsFit

/-- Every step keeps each held item under a serial of its own, fresh and owed to somebody, and each copy queue to items
whose sets name its drop (R92, R129, R131). -/
def Obligations.DeliveryLawKept : Prop :=
  ∀ s t : State, s.DeliveryLaw → step s = .next t → t.DeliveryLaw

/-! ## Trunk ports and routing -/

/-- The receiver of a side (R146, R3): TRUNK_START_BIT on a hunting one captures the house time of its instant;
TRUNK_LOST_SIGNAL on a receiving one abandons the packet as malformed; TRUNK_RESYNC_END lets a resynchronising one hunt. -/
def Obligations.TrunkReceiver : Prop :=
  ∀ (s : State) (side : Side), s.inReset = false →
    (∀ k : DividerCount, (s.port side).receiver.condition = .hunting → s.clock.time + k.val * 125 / 16 < 2 ^ 64 →
      exec (.trunkStartBit side k) s = .next
        { s with
          clock := { s.clock with divider := k },
          trunk := s.trunk.withPort side { s.port side with
            receiver := { condition := .receiving, capture := s.clock.time + k.val * 125 / 16 } } })
    ∧ ((s.port side).receiver.condition = .receiving →
      ∃ t, exec (.trunkLostSignal side) s = .next t
        ∧ t = { s with
            trunk := s.trunk.afterRefused side .resynchronising
              (fun c => { c with malformed := min 65535 (c.malformed + 1) }),
            reports := t.reports }
        ∧ LatchedExactly [.checkError] none s t)
    ∧ ((s.port side).receiver.condition = .resynchronising →
      exec (.trunkResyncEnd side) s = .next
        { s with trunk := s.trunk.withPort side { s.port side with
            receiver := { (s.port side).receiver with condition := .hunting } } })

/-- TRUNK_PACKET_COMPLETE of a packet that goes no further (R147, R148, R149, R17): a failed check, after which the receiver
resynchronises; a malformed header; a kind that may not arrive on its side; a TIME packet of hop 15. -/
def Obligations.TrunkPacketTurnedAway : Prop :=
  ∀ (s : State) (side : Side) (words : List Word), s.PacketIn side words →
    (checkCorrect words = false →
      ∃ t, exec (.trunkPacketComplete side words) s = .next t
        ∧ t = { s with
            trunk := s.trunk.afterRefused side .resynchronising
              (fun c => { c with checkFailures := min 65535 (c.checkFailures + 1) }),
            reports := t.reports }
        ∧ LatchedExactly [.checkError] none s t)
    ∧ (checkCorrect words = true → trunkHeaderOk words = false →
      ∃ t, exec (.trunkPacketComplete side words) s = .next t
        ∧ t = { s with
            trunk := s.trunk.afterRefused side .hunting
              (fun c => { c with malformed := min 65535 (c.malformed + 1) }),
            reports := t.reports }
        ∧ LatchedExactly [.checkError] none s t)
    ∧ (∀ k, checkCorrect words = true → trunkHeaderOk words = true → trunkKind words = some k →
      (side = .a ∧ k ∈ [.stamp, .sync, .reply, .report]) ∨ (side = .b ∧ k = .time) →
      exec (.trunkPacketComplete side words) s = .next
        { s with trunk := s.trunk.afterRefused side .hunting (fun c =>
            { c with
              received := min 65535 (c.received + 1), misdirected := min 65535 (c.misdirected + 1) }) })
    ∧ (checkCorrect words = true → trunkHeaderOk words = true → trunkKind words = some .time → side = .a →
      trunkHop words = 15 →
      exec (.trunkPacketComplete side words) s = .next
        { s with trunk := s.trunk.afterRefused side .hunting (fun c =>
            { c with received := min 65535 (c.received + 1), hopLimit := min 65535 (c.hopLimit + 1) }) })

/-- GENERAL packets from side A, and GENERAL, REPLY and REPORT packets from side B, travel on unchanged (R148, R149, R151,
R152): the words received stand at the FIFO's tail, or are lost, counted and latched where it holds eight. -/
def Obligations.TrunkPacketsTravelOn : Prop :=
  ∀ (s : State) (words : List Word), checkCorrect words = true → trunkHeaderOk words = true →
    (s.PacketIn .a words → trunkKind words = some .general →
      (s.trunk.downFifo.length < 8 → exec (.trunkPacketComplete .a words) s = .next
        { s with trunk := { s.trunk.afterReceived .a with downFifo := s.trunk.downFifo ++ [words] } })
      ∧ (8 ≤ s.trunk.downFifo.length → ∃ t, exec (.trunkPacketComplete .a words) s = .next t
        ∧ t = { s with
            trunk := { s.trunk.afterReceived .a with downOverflow := min 65535 (s.trunk.downOverflow + 1) },
            reports := t.reports }
        ∧ LatchedExactly [.trunkOverflow] none s t))
    ∧ (∀ k, s.PacketIn .b words → trunkKind words = some k → k ∈ [.general, .reply, .report] →
      (s.trunk.upFifo.length < 8 → exec (.trunkPacketComplete .b words) s = .next
        { s with trunk := { s.trunk.afterReceived .b with upFifo := s.trunk.upFifo ++ [words] } })
      ∧ (8 ≤ s.trunk.upFifo.length → ∃ t, exec (.trunkPacketComplete .b words) s = .next t
        ∧ t = { s with
            trunk := { s.trunk.afterReceived .b with upOverflow := min 65535 (s.trunk.upOverflow + 1) },
            reports := t.reports }
        ∧ LatchedExactly [.trunkOverflow] none s t))

/-- A MGMT packet by its destination station (R150, R152, R165): station 0 and this part's station, when it is addressed, go
to the management queue; station 0 from side A goes down the trunk as well; every other packet travels on. A FIFO that is
full loses the packet, counted and latched (`EntersFifo`), and the management queue has it all the same. -/
def Obligations.ManagementPacketsByStation : Prop :=
  ∀ (s : State) (side : Side) (words : List Word), s.PacketIn side words → checkCorrect words = true →
    trunkHeaderOk words = true → trunkKind words = some .mgmt →
    ∃ u v t, exec (.trunkPacketComplete side words) s = .next t
      ∧ u = { s with trunk := s.trunk.afterReceived side }
      ∧ v = { u with mgmt := s.mgmt.afterArrival side words }
      ∧ (if trunkDest words = 0 then if side = .a then EntersFifo .a words v t else t = v
        else if trunkDest words = s.trunk.station.toNat ∧ trunkDest words ≠ 63 then t = v
        else EntersFifo side words u t)

/-- A foreign STAMP or SYNC on side B, by the lookup of its kind and source station (R140, R152, R160): an empty result
filters it; UP sends it on through the up FIFO, which loses it, counted and latched, where it is full (`EntersFifo`); and
drops get a pass copy under a local serial, whether or not the packet found room in that FIFO and whatever the pass region
does with the copy (`ItemHanded`). -/
def Obligations.ForeignItemsByRoute : Prop :=
  ∀ (s : State) (words : List Word) (k : RouteKind) (item : ItemBody) (up : Bool) (m : DropMask), s.PacketIn .b words →
    checkCorrect words = true → trunkHeaderOk words = true →
    ((k = .stamp ∧ trunkKind words = some .stamp
        ∧ (StampItem.ofPayload (trunkPayload words)).map ItemBody.stamp = some item)
      ∨ (k = .sync ∧ trunkKind words = some .sync ∧ item = .sync (SyncItem.ofPayload (trunkPayload words)))) →
    s.lookup k (trunkSource words) = (up, m) →
    (up = false → m = 0#8 → exec (.trunkPacketComplete .b words) s = .next
      { s with trunk := s.trunk.afterRefused .b .hunting (fun c =>
          { c with received := min 65535 (c.received + 1), filtered := min 65535 (c.filtered + 1) }) })
    ∧ (up = true ∨ m ≠ 0#8 →
      ∃ u v t, exec (.trunkPacketComplete .b words) s = .next t
        ∧ u = { s with trunk := s.trunk.afterReceived .b }
        ∧ (up = true → EntersFifo .b words u v) ∧ (up = false → v = u)
        ∧ (m ≠ 0#8 → ItemHanded passRegion none item false m v t) ∧ (m = 0#8 → t = v))

/-- SIDE_A_TRANSMIT_START with side A idle (R136, R155, R156): the first of the reply queue, the report slot and the up FIFO
that holds a packet; with none, the oldest held item naming UP. -/
def Obligations.SideAServesInOrder : Prop :=
  ∀ s : State, s.inReset = false → s.trunk.transmissionA = none →
    (∀ w rest, s.trunk.sideA.replies = w :: rest → exec .sideATransmitStart s = .next
      { s with trunk := { s.trunk with
          sideA := { s.trunk.sideA with replies := rest }, transmissionA := some (.reply w) } })
    ∧ (∀ r, s.trunk.sideA.replies = [] → s.trunk.reportSlot = some r → exec .sideATransmitStart s = .next
      { s with trunk := { s.trunk with reportSlot := none, transmissionA := some (.report (s.reportPacket r)) } })
    ∧ (∀ w rest, s.trunk.sideA.replies = [] → s.trunk.reportSlot = none → s.trunk.upFifo = w :: rest →
      exec .sideATransmitStart s = .next
        { s with trunk := { s.trunk with upFifo := rest, transmissionA := some (.upFifo w) } })
    ∧ (∀ h ∈ s.heldItems, s.trunk.sideA.replies = [] → s.trunk.reportSlot = none → s.trunk.upFifo = [] →
      h.up = true → (s.heldItems.map s.age).Nodup → (∀ x ∈ s.heldItems, x.up = true → s.age x ≤ s.age h) →
      exec .sideATransmitStart s = .next
        { s with trunk := { s.trunk with transmissionA := some (.item h.serial (s.itemPacket h)) } })
    ∧ (s.trunk.sideA.replies = [] → s.trunk.reportSlot = none → s.trunk.upFifo = [] →
      (∀ h ∈ s.heldItems, h.up = false) → exec .sideATransmitStart s = .next s)

/-- SIDE_A_TRANSMIT_COMPLETE (R136, R137, R156): the transmission is counted; a local item still held loses UP, and retires
when its set is then empty. -/
def Obligations.SideACompletes : Prop :=
  ∀ (s : State) (x : SideATransmission), s.inReset = false → s.trunk.transmissionA = some x →
    ∃ t, exec .sideATransmitComplete s = .next t
      ∧ t = { s with
          trunk := { s.trunk with
            transmissionA := none,
            sideA := { s.trunk.sideA with counters := { s.trunk.sideA.counters with
              transmitted := min 65535 (s.trunk.sideA.counters.transmitted + 1) } } },
          store := { s.store with regions := t.store.regions } }
      ∧ ((∀ n words, x ≠ .item n words) → t.store = s.store)
      ∧ ∀ n words, x = .item n words → ∀ i,
          (t.region i).items = ((s.region i).items.map
            (fun h => if h.serial = n then { h with up := false } else h)).filter (fun h => h.up || h.drops != 0#8)
          ∧ (t.region i).retired = ((s.region i).retired
              + ((s.region i).items.length - (t.region i).items.length)) % 4294967296
          ∧ t.region i = { s.region i with items := (t.region i).items, retired := (t.region i).retired }

/-- SIDE_B_TRANSMIT_START with side B idle, and SIDE_B_TRANSMIT_COMPLETE (R3, R7, R157): the TIME slot goes first, its packet
carrying the house time of its own start; then the reply queue; then the down FIFO; a completion is counted. -/
def Obligations.SideBServesInOrder : Prop :=
  ∀ s : State, s.inReset = false →
    (∀ k : DividerCount, s.trunk.transmissionB = none →
      (∀ x, s.trunk.timeSlot = some x → s.clock.time + k.val * 125 / 16 < 2 ^ 64 →
        exec (.sideBTransmitStart k) s = .next
          { s with
            clock := { s.clock with divider := k },
            trunk := { s.trunk with
              timeSlot := none,
              transmissionB := some (.time (trunkPacket 0 s.sourceStation .time x.hop 0
                (natToWords 4 (s.clock.time + k.val * 125 / 16)
                  ++ [wordOf (place x.rate.code 12 4 + place x.quality.code 10 2)]))) } })
      ∧ (∀ w rest, s.trunk.timeSlot = none → s.trunk.sideB.replies = w :: rest →
        exec (.sideBTransmitStart k) s = .next
          { s with
            clock := { s.clock with divider := k },
            trunk := { s.trunk with
              sideB := { s.trunk.sideB with replies := rest }, transmissionB := some (.reply w) } })
      ∧ (∀ w rest, s.trunk.timeSlot = none → s.trunk.sideB.replies = [] → s.trunk.downFifo = w :: rest →
        exec (.sideBTransmitStart k) s = .next
          { s with
            clock := { s.clock with divider := k },
            trunk := { s.trunk with downFifo := rest, transmissionB := some (.downFifo w) } }))
    ∧ (s.trunk.transmissionB ≠ none → exec .sideBTransmitComplete s = .next
      { s with trunk := { s.trunk with
          transmissionB := none,
          sideB := { s.trunk.sideB with counters := { s.trunk.sideB.counters with
            transmitted := min 65535 (s.trunk.sideB.counters.transmitted + 1) } } } })

/-- Every step keeps the queues and FIFOs within their places (R92, R152, R154, R165). -/
def Obligations.WithinPlacesKept : Prop :=
  ∀ s t : State, s.WithinPlaces → step s = .next t → t.WithinPlaces

/-- Every step keeps valid routes of one kind apart, and within stations 0 to 63 (R158). -/
def Obligations.RoutesApartKept : Prop :=
  ∀ s t : State, s.RoutesApart → step s = .next t → t.RoutesApart

/-! ## Management -/

/-- HELD_REPLY_ENTRY and TRIM_REPLY_ENTRY (R154, R166): with room on its side the first waiting STORE_TRIM reply enters at
the queue's tail; the reply that the unit holds enters where no STORE_TRIM reply waits for that side, and the unit is
ready. -/
def Obligations.WaitingRepliesEnter : Prop :=
  (∀ (s : State) (r : Reply), s.inReset = false → s.mgmt.held = some r → (s.port r.side).replies.length < 4 →
    (∀ x ∈ s.mgmt.trimReplies, x.side ≠ r.side) →
    exec .heldReplyEntry s = .next
      { s with mgmt := { s.mgmt with held := none }, trunk := s.trunk.withReply r.side r.words })
  ∧ ∀ (s : State) (r : Reply) (before after : List Reply), s.inReset = false →
      s.mgmt.trimReplies = before ++ r :: after → (∀ x ∈ before, x.side ≠ r.side) →
      (s.port r.side).replies.length < 4 →
      exec (.trimReplyEntry r.side) s = .next
        { s with mgmt := { s.mgmt with trimReplies := before ++ after }, trunk := s.trunk.withReply r.side r.words }

/-- STORE_TRIM (R15, R154, R179): BUSY while a write is in flight, and otherwise A is captured and its write starts, with no
reply yet; and TRIM_WRITE_COMPLETE: the cell holds the captured value, the flag is clear, and an addressed request is
answered OK, or its reply waits where the queue is full or another STORE_TRIM reply waits before it. A BUSY reply too waits
behind a waiting STORE_TRIM reply (`Replied`), which is an inference of the model's (notes/assumptions/26.md). A reply of a
completion that falls together with a trunk reset waits for the queue that the reset empties (R176), and that this is one of a
completion while the unit is about to take a TRUNK_RESET is an inference too (notes/assumptions/36.md). -/
def Obligations.TrimIsWritten : Prop :=
  (∀ (s : State) (r : Request) (rest : List Request), s.Asked (.control .storeTrim) r rest →
    (s.trim.write = none → exec .storeTrim s = .next
      { s.asTaken rest with trim := { s.trim with
          write := some { captured := s.tracker.drift, replyTo := if r.broadcast = true then none else some r.replyTo } } })
    ∧ (s.trim.write ≠ none →
      ∃ t, exec .storeTrim s = .next t ∧ Replied r { status := .busy, record := [] } (s.asTaken rest) t))
  ∧ ∀ (s : State) (w : TrimWrite), s.inReset = false → s.trim.write = some w →
      (w.replyTo = none → exec .trimWriteComplete s = .next { s with trim := { value := w.captured, write := none } })
      ∧ ∀ q reply, w.replyTo = some q → reply = s.replyPacket q { status := .ok, record := [] } →
          (((s.port q.side).replies.length < 4 ∧ s.trimWaits q.side = false ∧ ¬ s.ResetNext) →
            exec .trimWriteComplete s = .next { s with
              trim := { value := w.captured, write := none }, trunk := s.trunk.withReply q.side reply.words })
          ∧ ((4 ≤ (s.port q.side).replies.length ∨ s.trimWaits q.side = true ∨ s.ResetNext) →
            exec .trimWriteComplete s = .next { s with
              trim := { value := w.captured, write := none },
              mgmt := { s.mgmt with trimReplies := s.mgmt.trimReplies ++ [reply] } })

/-- A READ of any of the ten tables (R167, R171, R174): answered OK with the record as it stands, or RANGE for an index the
table does not have; nothing else changes. A reply held behind a waiting STORE_TRIM reply while a place is free (`Replied`)
is an inference of the model's (notes/assumptions/26.md); where R190 leaves a word of a record open the record has the
model's choice (notes/assumptions/4.md, 15.md, 33.md). -/
def Obligations.ReadsAnswerRecord : Prop :=
  ∀ (s : State) (tb : Table) (r : Request) (rest : List Request), s.Asked (.read tb) r rest →
    ∃ t, exec (readCommand tb) s = .next t
      ∧ Replied r
          (if r.index < tb.indexes then { status := .ok, record := s.tableRecord tb r.index }
            else { status := .range, record := [] })
          (s.asTaken rest) t

/-- Requests that are carried out by no owner (R167): UNKNOWN for what steps 1 to 3 turn away; RANGE for a LOAD whose index
or record length its table does not have, and for a drop above 7. No state but the queue and the reply changes. A reply held
behind a waiting STORE_TRIM reply while a place is free (`Replied`) is an inference of the model's
(notes/assumptions/26.md). -/
def Obligations.RequestsRefused : Prop :=
  (∀ (s : State) (r : Request) (rest : List Request), s.Asked .unknown r rest →
    ∃ t, exec .unknownRequest s = .next t ∧ Replied r { status := .unknown, record := [] } (s.asTaken rest) t)
  ∧ (∀ (s : State) (tb : Table) (c : Instr) (r : Request) (rest : List Request),
    (tb, c) ∈ [(Table.part, Instr.loadPart), (.profile, .loadProfile), (.region, .loadRegion), (.route, .loadRoute),
      (.userBits, .loadUserBits)] →
    s.Asked (.load tb) r rest → (tb.indexes ≤ r.index ∨ some r.record.length ≠ tb.recordWords) →
    ∃ t, exec c s = .next t ∧ Replied r { status := .range, record := [] } (s.asTaken rest) t)
  ∧ ∀ (s : State) (k : Control) (c : Instr) (r : Request) (rest : List Request),
    (k, c) ∈ [(Control.dropReset, Instr.dropReset), (.anchor, .anchor)] → s.Asked (.control k) r rest →
    8 ≤ r.index →
    ∃ t, exec c s = .next t ∧ Replied r { status := .range, record := [] } (s.asTaken rest) t

/-- LOAD_PART (R22, R23, R168, R169, R172): every field is written, brought into its range, and answered with the record as
written; in SLEW c takes the new L_slew with the sign it had; nothing else changes. A c of 0 in SLEW, which no run reaches
(TimeBoundsKept), counts as positive by the model's choice (notes/assumptions/29.md), and a reply held behind a waiting
STORE_TRIM reply while a place is free (`Replied`) is an inference of its own (notes/assumptions/26.md). -/
def Obligations.LoadPartWrites : Prop :=
  ∀ (s : State) (r : Request) (rest : List Request) (p : PartRecord), s.Asked (.load .part) r rest →
    r.index = 0 → r.record.length = 9 → p = PartRecord.ofWords r.record →
    (p.propShift ≤ 15 ∧ p.intShift ≤ 15 ∧ 1 ≤ p.lockWindow ∧ p.lockWindow ≤ p.stepThreshold ∧ 1 ≤ p.nLock ∧ 1 ≤ p.nOut
      ∧ 1 ≤ p.lMiss ∧ 1 ≤ p.slewPpm ∧ p.slewPpm ≤ 1000 ∧ 1 ≤ p.holdoff)
    ∧ ∃ u t, exec .loadPart s = .next t
      ∧ u = { s.asTaken rest with
          part := p,
          clock := { s.clock with correction :=
            if s.tracker.state = .slew then
              if s.clock.correction < 0 then -(p.slewPpm * 67108864 / 1000 : Nat) else (p.slewPpm * 67108864 / 1000 : Nat)
            else s.clock.correction } }
      ∧ Replied r { status := if partLimits r.record = true then .okClamped else .ok, record := p.words } u t

/-- LOAD_PROFILE (R46, R57, R58, R59, R64, R134): RANGE for a record that R46 refuses; GUARDED for an unforced change of a
guarded field while a take is ROLLING; otherwise the pending profile of a drop that runs, the profile in force of a DISABLED
drop that stays DISABLED, and, of one that is enabled, also its anchor, target and B, its DF line, its drop state and its
copy queue. That the record answered carries its pending and force bits as 0 is an inference of the model's
(notes/assumptions/16.md), and so is a reply held behind a waiting STORE_TRIM reply while a place is free
(notes/assumptions/26.md). -/
def Obligations.LoadProfileAccepted : Prop :=
  ∀ (s : State) (r : Request) (rest : List Request) (d : DropId), s.Asked (.load .profile) r rest → r.index = d.val →
    r.record.length = 9 →
    (Profile.ofWords r.record = none →
      ∃ t, exec .loadProfile s = .next t ∧ Replied r { status := .range, record := [] } (s.asTaken rest) t)
    ∧ ∀ (p : Profile) (f : Finding), Profile.ofWords r.record = some p →
      f = { status := if profileLimits p.rate r.record = true then .okClamped else .ok, record := p.words false false } →
      ((s.drop d).take.state = .rolling → forceFlag r.record = false → GuardedChange p (s.drop d).profile →
        ∃ t, exec .loadProfile s = .next t ∧ Replied r { status := .guarded, record := [] } (s.asTaken rest) t)
      ∧ ((s.drop d).take.state = .idle ∨ forceFlag r.record = true ∨ ¬ GuardedChange p (s.drop d).profile →
        ((s.drop d).line.state ≠ .disabled →
          ∃ t, exec .loadProfile s = .next t
            ∧ Replied r f ((s.asTaken rest).updDrop d (fun x => { x with
                cadence := { x.cadence with pendingProfile := some p } })) t)
        ∧ ((s.drop d).line.state = .disabled → p.enabled = false →
          ∃ t, exec .loadProfile s = .next t
            ∧ Replied r f ((s.asTaken rest).updDrop d (fun x => { x with profile := p })) t)
        ∧ ((s.drop d).line.state = .disabled → p.enabled = true →
          ∃ c u t, exec .loadProfile s = .next t ∧ OnlyDrop d (s.asTaken rest) u
            ∧ AnchoredAt p s.clock.time (s.drop d).cadence c
            ∧ u.FilledFrom d { s.drop d with
                profile := p, cadence := c,
                df := { level := p.dfFunction == .high, pulseEnd := none, held := false, waitsForBoundary := false },
                line := { (s.drop d).line with state := .active, quietTimer := 0, activity := false } }
            ∧ Replied r f u t))

/-- LOAD_REGION (R127), in the order of its judgement: RANGE, BUSY, OVERLAP, and otherwise the entry is written, its counters
cleared where the load assigns, unassigns or moves it, and answered OK with the record. A reply held behind a waiting
STORE_TRIM reply while a place is free (`Replied`) is an inference of the model's (notes/assumptions/26.md). -/
def Obligations.LoadRegionJudged : Prop :=
  ∀ (s : State) (r : Request) (rest : List Request) (i : RegionId) (x : RegionRecord), s.Asked (.load .region) r rest →
    r.index = i.val → r.record.length = 3 → x = RegionRecord.ofWords r.record →
    (x.assigned = true → (x.size ∉ [8, 16, 32, 64, 128, 256] ∨ x.base % x.size ≠ 0 ∨ 511 < x.base) →
      ∃ t, exec .loadRegion s = .next t ∧ Replied r { status := .range, record := [] } (s.asTaken rest) t)
    ∧ (x.assigned = false ∨ (x.size ∈ [8, 16, 32, 64, 128, 256] ∧ x.base % x.size = 0 ∧ x.base ≤ 511) →
      ((s.region i).items ≠ [] →
        x.assigned ≠ (s.region i).assigned ∨ x.base ≠ (s.region i).base ∨ x.size ≠ (s.region i).size →
        ∃ t, exec .loadRegion s = .next t ∧ Replied r { status := .busy, record := [] } (s.asTaken rest) t)
      ∧ ((s.region i).items = []
          ∨ (x.assigned = (s.region i).assigned ∧ x.base = (s.region i).base ∧ x.size = (s.region i).size) →
        (x.assigned = true → (∃ j slot, j ≠ i ∧ (s.region j).owns slot ∧ x.base ≤ slot ∧ slot < x.base + x.size) →
          ∃ t, exec .loadRegion s = .next t ∧ Replied r { status := .overlap, record := [] } (s.asTaken rest) t)
        ∧ (x.assigned = false
            ∨ (∀ j, j ≠ i → (s.region j).assigned = true →
                0 < (s.region j).size ∧ ∀ slot, (s.region j).owns slot → ¬ (x.base ≤ slot ∧ slot < x.base + x.size)) →
          ∃ u t, exec .loadRegion s = .next t
            ∧ u = { s.asTaken rest with store := { s.store with regions := u.store.regions } }
            ∧ (∀ j, j ≠ i → u.region j = s.region j)
            ∧ u.region i =
                (if x.assigned ≠ (s.region i).assigned
                    ∨ ((s.region i).assigned = true ∧ (x.base ≠ (s.region i).base ∨ x.size ≠ (s.region i).size)) then
                  { s.region i with
                    assigned := x.assigned, base := x.base, size := x.size, policy := x.policy, accepted := 0,
                    retired := 0, discarded := 0 }
                else
                  { s.region i with
                    assigned := x.assigned, base := x.base, size := x.size, policy := x.policy })
            ∧ Replied r { status := .ok, record := (u.region i).words } u t)))

/-- LOAD_ROUTE (R158) and LOAD_USER_BITS (R76): a valid route that is out of range or shares a station with another valid
entry of its kind is refused; any other record is written whole, and so is every user-bits entry. A reply held behind a
waiting STORE_TRIM reply while a place is free (`Replied`) is an inference of the model's (notes/assumptions/26.md). -/
def Obligations.LoadRouteAndUserBits : Prop :=
  (∀ (s : State) (r : Request) (rest : List Request) (i : RouteId) (x : Route), s.Asked (.load .route) r rest →
    r.index = i.val → r.record.length = 3 → x = Route.ofWords r.record →
    (x.valid = true → (2 ≤ x.kind.toNat ∨ x.size ∉ [1, 2, 4, 8, 16, 32, 64] ∨ x.base % x.size ≠ 0) →
      ∃ t, exec .loadRoute s = .next t ∧ Replied r { status := .range, record := [] } (s.asTaken rest) t)
    ∧ (x.valid = true → x.kind.toNat < 2 → x.size ∈ [1, 2, 4, 8, 16, 32, 64] → x.base % x.size = 0 →
      (∃ j k station, j ≠ i ∧ x.covers k station = true ∧ (s.route j).covers k station = true) →
      ∃ t, exec .loadRoute s = .next t ∧ Replied r { status := .overlap, record := [] } (s.asTaken rest) t)
    ∧ (x.valid = false ∨ (x.kind.toNat < 2 ∧ x.size ∈ [1, 2, 4, 8, 16, 32, 64] ∧ x.base % x.size = 0
          ∧ ∀ j k station, j ≠ i → x.covers k station = true → (s.route j).covers k station = false) →
      (∀ j, (s.route j).valid = true → 0 < (s.route j).size) →
      ∃ u t, exec .loadRoute s = .next t
        ∧ u = { s.asTaken rest with trunk := { s.trunk with routes := u.trunk.routes } }
        ∧ u.route i = x ∧ (∀ j, j ≠ i → u.route j = s.route j)
        ∧ Replied r { status := .ok, record := x.words } u t))
  ∧ ∀ (s : State) (r : Request) (rest : List Request) (i : Fin 64) (v : Digits), s.Asked (.load .userBits) r rest →
      r.index = i.val → r.record.length = 2 → v = digitsOfWords (wordAt r.record 0) (wordAt r.record 1) →
      ∃ t, exec .loadUserBits s = .next t
        ∧ Replied r { status := .ok, record := digitWords v }
            { s.asTaken rest with labels := { s.labels with userBits := s.labels.userBits.set i.val v } } t

/-- The controls that reach one block (R38, R40, R41, R61, R175, R185), each answered OK: REOPEN, FORCE_JAM, HOLD, RESUME and
ANCHOR; HOLD with HOLD set, RESUME with it clear, and ANCHOR for a DISABLED drop change nothing else. The two expiry flags
that REOPEN, HOLD and RESUME clear are the model's own (notes/assumptions/9.md), that the count of a stopped holdoff timer
keeps its value is its choice (notes/assumptions/34.md), and a reply held behind a waiting STORE_TRIM
reply while a place is free (`Replied`) is an inference of its own (notes/assumptions/26.md). -/
def Obligations.ControlsReachOneBlock : Prop :=
  ∀ (s : State) (r : Request) (rest : List Request) (f : Finding), f = { status := .ok, record := [] } →
    (s.Asked (.control .reopen) r rest →
      ∃ t, exec .reopen s = .next t
        ∧ Replied r f { s.asTaken rest with
            reports := if s.reports.gateOpen = true then s.reports
              else { s.reports with gateOpen := true, timerRunning := false, expiryDue := false } } t)
    ∧ (s.Asked (.control .forceJam) r rest →
      ∃ t, exec .forceJam s = .next t
        ∧ Replied r f { s.asTaken rest with tracker := { s.tracker with forceJam := true } } t)
    ∧ (s.Asked (.control .hold) r rest → s.tracker.hold = false →
      ∃ u t, exec .hold s = .next t
        ∧ u = { s.asTaken rest with
            clock := { s.clock with correction := s.tracker.drift },
            tracker := { s.tracker with
              state := .freewheel, lockCount := 0, outlierCount := 0, firstArrival := true, expiryDue := false,
              hold := true, heldFromAcquire := s.tracker.state == .acquire },
            reports := u.reports }
        ∧ LatchedExactly (if s.tracker.state = .locked then [.lockLost] else []) none s u ∧ Replied r f u t)
    ∧ (s.Asked (.control .hold) r rest → s.tracker.hold = true →
      ∃ t, exec .hold s = .next t ∧ Replied r f (s.asTaken rest) t)
    ∧ (s.Asked (.control .resume) r rest → s.tracker.hold = false →
      ∃ t, exec .resume s = .next t ∧ Replied r f (s.asTaken rest) t)
    ∧ (s.Asked (.control .resume) r rest → s.tracker.hold = true →
      ∃ t, exec .resume s = .next t
        ∧ Replied r f { s.asTaken rest with tracker := { s.tracker with
            hold := false, missingTime := 0, expiryDue := false, firstArrival := true, heldFromAcquire := false,
            state := if s.tracker.heldFromAcquire = true then .acquire else s.tracker.state } } t)
    ∧ (∀ d : DropId, s.Asked (.control .anchor) r rest → r.index = d.val → (s.drop d).line.state = .disabled →
      ∃ t, exec .anchor s = .next t ∧ Replied r f (s.asTaken rest) t)
    ∧ (∀ d : DropId, s.Asked (.control .anchor) r rest → r.index = d.val → (s.drop d).line.state ≠ .disabled →
      ∃ u t, exec .anchor s = .next t ∧ OnlyDrop d (s.asTaken rest) u
        ∧ u.drop d = { s.drop d with cadence := { (s.drop d).cadence with pendingAnchor := true } }
        ∧ Replied r f u t)

/-! ## Resets -/

/-- TRUNK_RESET (R62, R102, R154, R176): what each block becomes, and the OK that goes into the emptied reply queue, behind the
STORE_TRIM replies that wait, for room or for this reset (notes/assumptions/36.md), of which a queue takes four
(notes/assumptions/25.md); the replies that stood in the queues are lost. A pending profile applies at once to the emptied
lines, and so does a pending anchor where no profile is pending. A HOLD applied here holds the level that the line has at the instant of the reset, whose divider count is
free (notes/assumptions/14.md); what the apply does to a DF line that a drop reset keeps low is the model's choice
(notes/assumptions/13.md), and so is that the emptied shift registers hunt (notes/assumptions/32.md). The reply's hand-over
is that of `Replied` (notes/assumptions/26.md). -/
def Obligations.TrunkResetReachesBlocks : Prop :=
  ∀ (s : State) (r : Request) (rest : List Request), s.Asked (.control .trunkReset) r rest →
      (∀ side, (s.waitingTrims side).length ≤ 4) →
    ∃ u t, exec .trunkReset s = .next t ∧ Replied r { status := .ok, record := [] } u t
      ∧ u = { s with
          clock := { s.clock with correction := s.tracker.drift }, house := { s.house with pendingRate := none },
          tracker := { Tracker.atPowerOn with drift := s.tracker.drift },
          drops := u.drops, intake := { lastServed := 7, inProcess := none },
          labels := { s.labels with sceneIndex := 0 },
          store := { s.store with regions := u.store.regions, passUnassigned := 0 },
          trunk := { s.trunk with
            sideA := { s.trunk.sideA with
              replies := (s.waitingTrims .a).map Reply.words, counters := SideCounters.cleared },
            sideB := { s.trunk.sideB with
              replies := (s.waitingTrims .b).map Reply.words, counters := SideCounters.cleared },
            upFifo := [], downFifo := [], reportSlot := none, timeSlot := none, upOverflow := 0, downOverflow := 0 },
          reports := ReportUnit.atPowerOn,
          mgmt := { s.mgmt with queue := [], trimReplies := [], discards := 0 } }
      ∧ (∀ i, u.region i = { s.region i with items := [], accepted := 0, retired := 0, discarded := 0 })
      ∧ ∀ (d : DropId) (c : Cadence), c = (s.drop d).cadence →
        (u.drop d).take = (if (s.drop d).take.state = .rolling then
            { (s.drop d).take with state := .idle, lastClose := .reset }
          else (s.drop d).take)
        ∧ (u.drop d).line =
            { state := if (u.drop d).profile.enabled = true then .active else .disabled,
              shift := .hunting, receiveStall := 0, holding := none, slot := none, copyQueue := [], transmission := none,
              transmitStall := 0, wait := false, quietTimer := 0, activity := false,
              counters := DropCounters.cleared }
        ∧ (u.drop d).profile = c.pendingProfile.getD (s.drop d).profile
        ∧ (c.pendingProfile = none → (u.drop d).df = (s.drop d).df
            ∧ (c.pendingAnchor = false → (u.drop d).cadence = c)
            ∧ (c.pendingAnchor = true → AnchoredAt (s.drop d).profile s.clock.time c (u.drop d).cadence))
        ∧ ∀ p, c.pendingProfile = some p →
            (p.enabled = true → AnchoredAt p s.clock.time { c with pendingProfile := none } (u.drop d).cadence
              ∧ DfTakes (s.drop d).profile.dfFunction p.dfFunction
                  { (s.drop d).df with level := s.dfLevel d (Config.resetInstant s.clock.time) } (u.drop d).df)
            ∧ (p.enabled = false →
                (u.drop d).cadence = { c with pendingProfile := none, pendingAnchor := false }
                ∧ (u.drop d).df =
                    { (s.drop d).df with level := false, pulseEnd := none, waitsForBoundary := false })

/-- DROP_RESET of drop `d` (R62, R101, R108, R118, R142, R177), for distinct held serials, completes in the order of its
owners. Its lines are emptied and its counters cleared but for the packets discarded, and DF goes low; its region's items are
discarded; it leaves every delivery set, so that the other regions lose only the items that retire; a ROLLING take closes
RESET with its synthesized CUT and the guard is reassessed; a pending anchor is dropped and a pending profile applies; and
the drop is ACTIVE or DISABLED by the profile then in force. That the DF line of a DISABLED drop does not wait for a boundary
event is the model's choice (notes/assumptions/13.md); the filling of a queue at a discard, the order within an apply, a
disabled drop's shift register hunting, and a reply held behind a waiting STORE_TRIM reply while a place is free are its own
readings too (notes/assumptions/12.md, 17.md, 32.md, 26.md), and so is that the CUT of an unassigned region counts after the
counters are cleared (notes/assumptions/28.md). -/
def Obligations.DropResetEmptiesDrop : Prop :=
  ∀ (s : State) (r : Request) (rest : List Request) (d : DropId) (atIntake : Bool),
    s.Asked (.control .dropReset) r rest → r.index = d.val → (s.heldItems.map Held.serial).Nodup →
    (atIntake = true ↔ s.intake.inProcess.map InProcess.source = some d) →
    ∃ s₁ s₂ s₃ s₄ s₅ u t, exec .dropReset s = .next t ∧ Replied r { status := .ok, record := [] } u t
      ∧ s₁ = { s.asTaken rest with intake := { s.intake with
            inProcess := if atIntake then none else s.intake.inProcess } }.updDrop d (fun x => { x with
          df := { x.df with level := false, pulseEnd := none, waitsForBoundary := (s.drop d).line.state != DropState.disabled },
          line :=
            { state := x.line.state, shift := .hunting, receiveStall := 0, holding := none, slot := none,
              copyQueue := [], transmission := none, transmitStall := 0, wait := false, quietTimer := 0,
              activity := false,
              counters := { DropCounters.cleared with
                flushed := (if x.line.holding = none then 0 else 1) + (if atIntake then 1 else 0) } } })
      ∧ Discards ((s.region (dropRegion d)).items.map Held.serial) s₁ s₂
      ∧ SetsChange (fun h => { h with drops := h.drops &&& ~~~(maskOf d) }) s₂ s₃
      ∧ ((s.drop d).take.state = .idle → s₄ = s₃)
      ∧ ((s.drop d).take.state = .rolling →
          ClosesWithCut d .reset (s.drop d).profile (s.drop d).cadence.anchor s₃ s₄)
      ∧ ((s.drop d).cadence.pendingProfile = none →
          s₅ = s₄.updDrop d (fun x => { x with cadence := { x.cadence with pendingAnchor := false } }))
      ∧ (∀ p, (s.drop d).cadence.pendingProfile = some p →
          ProfileApplies d p
            (s₄.updDrop d (fun x => { x with cadence := { x.cadence with pendingAnchor := false } })) s₅)
      ∧ u = s₅.updDrop d (fun x => { x with line := { x.line with
          state := if x.profile.enabled = true then .active else .disabled } })

/-! ## Reports -/

/-- REPORT_EMISSION (R182, R183, R186) with the gate open and the slot empty: the REPORT of the eligible cause of highest
priority fills the slot, its latch clears, the gate closes and the holdoff timer starts; and HOLDOFF_EXPIRY (R184): the gate
opens and the timer stops, on the condition of the expiry flag, which is the model's own (notes/assumptions/9.md). That the
count of a stopped timer keeps its value is the model's choice (notes/assumptions/34.md). -/
def Obligations.ReportsThroughGate : Prop :=
  (∀ (s : State) (c : Cause), s.inReset = false → s.reports.gateOpen = true → s.trunk.reportSlot = none →
    s.eligible c = true → (∀ c' : Cause, c'.code < c.code → s.eligible c' = false) →
    ∃ t, exec .reportEmission s = .next t
      ∧ t = { s with
          trunk := { s.trunk with
            reportSlot := some
              { cause := c, trackerState := s.tracker.state, quality := s.partQuality, time := s.clock.time,
                stepCount := s.clock.stepCount, drops := (s.latchOf c).drops, count := (s.latchOf c).count } },
          reports :=
            { latches := t.reports.latches, gateOpen := false, timerRunning := true, timerCount := 0,
              expiryDue := false } }
      ∧ t.latchOf c = { pending := false, drops := 0#8, count := 0 }
      ∧ ∀ c', c' ≠ c → t.latchOf c' = s.latchOf c')
  ∧ ∀ s : State, s.inReset = false → s.reports.timerRunning = true → s.reports.expiryDue = true →
      exec .holdoffExpiry s = .next
        { s with reports := { s.reports with gateOpen := true, timerRunning := false, expiryDue := false } }

/-! ## Records -/

/-- The loadable records read back: the words of a PART record, and of a profile without its pending bits, with every field
in its range (R22, R46, R172), give that record again, and none of them is limited. A packet on DX or DR reads back too
(R82): its bits are a low start bit and 16 for each word, the most significant first, and they give its words again. So does
a packet on a trunk pair (R146), behind a start bit of its own kind; and what a side's pair carries is a packet in
transmission, or idle where there is none and throughout power-on reset (R193). -/
def Obligations.RecordsReadBack : Prop :=
  (∀ p : PartRecord, p.propShift ≤ 15 → p.intShift ≤ 15 → 1 ≤ p.lockWindow → p.lockWindow ≤ 65535 →
    p.lockWindow ≤ p.stepThreshold → p.stepThreshold < 4294967296 → 1 ≤ p.nLock → p.nLock ≤ 255 → 1 ≤ p.nOut →
    p.nOut ≤ 255 → 1 ≤ p.lMiss → p.lMiss ≤ 255 → 1 ≤ p.slewPpm → p.slewPpm ≤ 1000 → p.trunkDelay ≤ 65535 →
    1 ≤ p.holdoff → p.holdoff ≤ 255 →
    PartRecord.ofWords p.words = p ∧ partLimits p.words = false)
  ∧ (∀ p : Profile, (p.dropFrame = true → p.rate = .fps30000over1001 ∨ p.rate = .fps60000over1001) →
    (p.dfFunction = .word → p.audio ≠ .none) → -2147483647 ≤ p.offset → p.offset ≤ 2147483647 →
    p.pulseWidth < p.rate.period → p.quietLimit ≤ 255 → 1 ≤ p.stampWindow → p.stampWindow ≤ 255 →
    Profile.ofWords (p.words false false) = some p ∧ profileLimits p.rate (p.words false false) = false)
  ∧ (∀ words : List Word,
    (lineBits words).length = 1 + 16 * words.length ∧ (lineBits words).head? = some false
    ∧ (∀ i j w, words[i]? = some w → j < 16 → (lineBits words)[1 + 16 * i + j]? = some (w.getMsbD j))
    ∧ wordsOfLine (lineBits words) = some words)
  ∧ (∀ words : List Word,
    (trunkBits words).length = 1 + 16 * words.length ∧ (trunkBits words).head? = some .start
    ∧ (∀ i j w, words[i]? = some w → j < 16 → (trunkBits words)[1 + 16 * i + j]? = some (.data (w.getMsbD j)))
    ∧ wordsOfTrunk (trunkBits words) = some words)
  ∧ ∀ (s : State) (side : Side) (words : List Word),
    (s.inReset = true ∨ s.trunk.sendingWords side = none → s.trunkDrive side = .idle)
    ∧ (s.inReset = false → s.trunk.sendingWords side = some words → s.trunkDrive side = .sending (trunkBits words))
end

