-- ==== Sys2Proof/Laws/State.lean ====
section
/-! SUPPORT. One lemma per field of State per replacement of a block: the block replaced reads as given, every other
field as before. -/

namespace Sys2Proof.Machine

@[simp] theorem State.setClock_inReset (s : State) (x : Clock) : (s.setClock x).inReset = s.inReset := rfl
@[simp] theorem State.setClock_clock (s : State) (x : Clock) : (s.setClock x).clock = x := rfl
@[simp] theorem State.setClock_house (s : State) (x : Clock) : (s.setClock x).house = s.house := rfl
@[simp] theorem State.setClock_trim (s : State) (x : Clock) : (s.setClock x).trim = s.trim := rfl
@[simp] theorem State.setClock_tracker (s : State) (x : Clock) : (s.setClock x).tracker = s.tracker := rfl
@[simp] theorem State.setClock_part (s : State) (x : Clock) : (s.setClock x).part = s.part := rfl
@[simp] theorem State.setClock_drops (s : State) (x : Clock) : (s.setClock x).drops = s.drops := rfl
@[simp] theorem State.setClock_intake (s : State) (x : Clock) : (s.setClock x).intake = s.intake := rfl
@[simp] theorem State.setClock_labels (s : State) (x : Clock) : (s.setClock x).labels = s.labels := rfl
@[simp] theorem State.setClock_store (s : State) (x : Clock) : (s.setClock x).store = s.store := rfl
@[simp] theorem State.setClock_trunk (s : State) (x : Clock) : (s.setClock x).trunk = s.trunk := rfl
@[simp] theorem State.setClock_mgmt (s : State) (x : Clock) : (s.setClock x).mgmt = s.mgmt := rfl
@[simp] theorem State.setClock_reports (s : State) (x : Clock) : (s.setClock x).reports = s.reports := rfl
@[simp] theorem State.setClock_pending (s : State) (x : Clock) : (s.setClock x).pending = s.pending := rfl

@[simp] theorem State.setHouse_inReset (s : State) (x : HouseCadence) : (s.setHouse x).inReset = s.inReset := rfl
@[simp] theorem State.setHouse_clock (s : State) (x : HouseCadence) : (s.setHouse x).clock = s.clock := rfl
@[simp] theorem State.setHouse_house (s : State) (x : HouseCadence) : (s.setHouse x).house = x := rfl
@[simp] theorem State.setHouse_trim (s : State) (x : HouseCadence) : (s.setHouse x).trim = s.trim := rfl
@[simp] theorem State.setHouse_tracker (s : State) (x : HouseCadence) : (s.setHouse x).tracker = s.tracker := rfl
@[simp] theorem State.setHouse_part (s : State) (x : HouseCadence) : (s.setHouse x).part = s.part := rfl
@[simp] theorem State.setHouse_drops (s : State) (x : HouseCadence) : (s.setHouse x).drops = s.drops := rfl
@[simp] theorem State.setHouse_intake (s : State) (x : HouseCadence) : (s.setHouse x).intake = s.intake := rfl
@[simp] theorem State.setHouse_labels (s : State) (x : HouseCadence) : (s.setHouse x).labels = s.labels := rfl
@[simp] theorem State.setHouse_store (s : State) (x : HouseCadence) : (s.setHouse x).store = s.store := rfl
@[simp] theorem State.setHouse_trunk (s : State) (x : HouseCadence) : (s.setHouse x).trunk = s.trunk := rfl
@[simp] theorem State.setHouse_mgmt (s : State) (x : HouseCadence) : (s.setHouse x).mgmt = s.mgmt := rfl
@[simp] theorem State.setHouse_reports (s : State) (x : HouseCadence) : (s.setHouse x).reports = s.reports := rfl
@[simp] theorem State.setHouse_pending (s : State) (x : HouseCadence) : (s.setHouse x).pending = s.pending := rfl

@[simp] theorem State.setTrim_inReset (s : State) (x : TrimCell) : (s.setTrim x).inReset = s.inReset := rfl
@[simp] theorem State.setTrim_clock (s : State) (x : TrimCell) : (s.setTrim x).clock = s.clock := rfl
@[simp] theorem State.setTrim_house (s : State) (x : TrimCell) : (s.setTrim x).house = s.house := rfl
@[simp] theorem State.setTrim_trim (s : State) (x : TrimCell) : (s.setTrim x).trim = x := rfl
@[simp] theorem State.setTrim_tracker (s : State) (x : TrimCell) : (s.setTrim x).tracker = s.tracker := rfl
@[simp] theorem State.setTrim_part (s : State) (x : TrimCell) : (s.setTrim x).part = s.part := rfl
@[simp] theorem State.setTrim_drops (s : State) (x : TrimCell) : (s.setTrim x).drops = s.drops := rfl
@[simp] theorem State.setTrim_intake (s : State) (x : TrimCell) : (s.setTrim x).intake = s.intake := rfl
@[simp] theorem State.setTrim_labels (s : State) (x : TrimCell) : (s.setTrim x).labels = s.labels := rfl
@[simp] theorem State.setTrim_store (s : State) (x : TrimCell) : (s.setTrim x).store = s.store := rfl
@[simp] theorem State.setTrim_trunk (s : State) (x : TrimCell) : (s.setTrim x).trunk = s.trunk := rfl
@[simp] theorem State.setTrim_mgmt (s : State) (x : TrimCell) : (s.setTrim x).mgmt = s.mgmt := rfl
@[simp] theorem State.setTrim_reports (s : State) (x : TrimCell) : (s.setTrim x).reports = s.reports := rfl
@[simp] theorem State.setTrim_pending (s : State) (x : TrimCell) : (s.setTrim x).pending = s.pending := rfl

@[simp] theorem State.setTracker_inReset (s : State) (x : Tracker) : (s.setTracker x).inReset = s.inReset := rfl
@[simp] theorem State.setTracker_clock (s : State) (x : Tracker) : (s.setTracker x).clock = s.clock := rfl
@[simp] theorem State.setTracker_house (s : State) (x : Tracker) : (s.setTracker x).house = s.house := rfl
@[simp] theorem State.setTracker_trim (s : State) (x : Tracker) : (s.setTracker x).trim = s.trim := rfl
@[simp] theorem State.setTracker_tracker (s : State) (x : Tracker) : (s.setTracker x).tracker = x := rfl
@[simp] theorem State.setTracker_part (s : State) (x : Tracker) : (s.setTracker x).part = s.part := rfl
@[simp] theorem State.setTracker_drops (s : State) (x : Tracker) : (s.setTracker x).drops = s.drops := rfl
@[simp] theorem State.setTracker_intake (s : State) (x : Tracker) : (s.setTracker x).intake = s.intake := rfl
@[simp] theorem State.setTracker_labels (s : State) (x : Tracker) : (s.setTracker x).labels = s.labels := rfl
@[simp] theorem State.setTracker_store (s : State) (x : Tracker) : (s.setTracker x).store = s.store := rfl
@[simp] theorem State.setTracker_trunk (s : State) (x : Tracker) : (s.setTracker x).trunk = s.trunk := rfl
@[simp] theorem State.setTracker_mgmt (s : State) (x : Tracker) : (s.setTracker x).mgmt = s.mgmt := rfl
@[simp] theorem State.setTracker_reports (s : State) (x : Tracker) : (s.setTracker x).reports = s.reports := rfl
@[simp] theorem State.setTracker_pending (s : State) (x : Tracker) : (s.setTracker x).pending = s.pending := rfl

@[simp] theorem State.setPart_inReset (s : State) (x : PartRecord) : (s.setPart x).inReset = s.inReset := rfl
@[simp] theorem State.setPart_clock (s : State) (x : PartRecord) : (s.setPart x).clock = s.clock := rfl
@[simp] theorem State.setPart_house (s : State) (x : PartRecord) : (s.setPart x).house = s.house := rfl
@[simp] theorem State.setPart_trim (s : State) (x : PartRecord) : (s.setPart x).trim = s.trim := rfl
@[simp] theorem State.setPart_tracker (s : State) (x : PartRecord) : (s.setPart x).tracker = s.tracker := rfl
@[simp] theorem State.setPart_part (s : State) (x : PartRecord) : (s.setPart x).part = x := rfl
@[simp] theorem State.setPart_drops (s : State) (x : PartRecord) : (s.setPart x).drops = s.drops := rfl
@[simp] theorem State.setPart_intake (s : State) (x : PartRecord) : (s.setPart x).intake = s.intake := rfl
@[simp] theorem State.setPart_labels (s : State) (x : PartRecord) : (s.setPart x).labels = s.labels := rfl
@[simp] theorem State.setPart_store (s : State) (x : PartRecord) : (s.setPart x).store = s.store := rfl
@[simp] theorem State.setPart_trunk (s : State) (x : PartRecord) : (s.setPart x).trunk = s.trunk := rfl
@[simp] theorem State.setPart_mgmt (s : State) (x : PartRecord) : (s.setPart x).mgmt = s.mgmt := rfl
@[simp] theorem State.setPart_reports (s : State) (x : PartRecord) : (s.setPart x).reports = s.reports := rfl
@[simp] theorem State.setPart_pending (s : State) (x : PartRecord) : (s.setPart x).pending = s.pending := rfl

@[simp] theorem State.setDrops_inReset (s : State) (x : Vector Drop 8) : (s.setDrops x).inReset = s.inReset := rfl
@[simp] theorem State.setDrops_clock (s : State) (x : Vector Drop 8) : (s.setDrops x).clock = s.clock := rfl
@[simp] theorem State.setDrops_house (s : State) (x : Vector Drop 8) : (s.setDrops x).house = s.house := rfl
@[simp] theorem State.setDrops_trim (s : State) (x : Vector Drop 8) : (s.setDrops x).trim = s.trim := rfl
@[simp] theorem State.setDrops_tracker (s : State) (x : Vector Drop 8) : (s.setDrops x).tracker = s.tracker := rfl
@[simp] theorem State.setDrops_part (s : State) (x : Vector Drop 8) : (s.setDrops x).part = s.part := rfl
@[simp] theorem State.setDrops_drops (s : State) (x : Vector Drop 8) : (s.setDrops x).drops = x := rfl
@[simp] theorem State.setDrops_intake (s : State) (x : Vector Drop 8) : (s.setDrops x).intake = s.intake := rfl
@[simp] theorem State.setDrops_labels (s : State) (x : Vector Drop 8) : (s.setDrops x).labels = s.labels := rfl
@[simp] theorem State.setDrops_store (s : State) (x : Vector Drop 8) : (s.setDrops x).store = s.store := rfl
@[simp] theorem State.setDrops_trunk (s : State) (x : Vector Drop 8) : (s.setDrops x).trunk = s.trunk := rfl
@[simp] theorem State.setDrops_mgmt (s : State) (x : Vector Drop 8) : (s.setDrops x).mgmt = s.mgmt := rfl
@[simp] theorem State.setDrops_reports (s : State) (x : Vector Drop 8) : (s.setDrops x).reports = s.reports := rfl
@[simp] theorem State.setDrops_pending (s : State) (x : Vector Drop 8) : (s.setDrops x).pending = s.pending := rfl

@[simp] theorem State.setIntake_inReset (s : State) (x : Intake) : (s.setIntake x).inReset = s.inReset := rfl
@[simp] theorem State.setIntake_clock (s : State) (x : Intake) : (s.setIntake x).clock = s.clock := rfl
@[simp] theorem State.setIntake_house (s : State) (x : Intake) : (s.setIntake x).house = s.house := rfl
@[simp] theorem State.setIntake_trim (s : State) (x : Intake) : (s.setIntake x).trim = s.trim := rfl
@[simp] theorem State.setIntake_tracker (s : State) (x : Intake) : (s.setIntake x).tracker = s.tracker := rfl
@[simp] theorem State.setIntake_part (s : State) (x : Intake) : (s.setIntake x).part = s.part := rfl
@[simp] theorem State.setIntake_drops (s : State) (x : Intake) : (s.setIntake x).drops = s.drops := rfl
@[simp] theorem State.setIntake_intake (s : State) (x : Intake) : (s.setIntake x).intake = x := rfl
@[simp] theorem State.setIntake_labels (s : State) (x : Intake) : (s.setIntake x).labels = s.labels := rfl
@[simp] theorem State.setIntake_store (s : State) (x : Intake) : (s.setIntake x).store = s.store := rfl
@[simp] theorem State.setIntake_trunk (s : State) (x : Intake) : (s.setIntake x).trunk = s.trunk := rfl
@[simp] theorem State.setIntake_mgmt (s : State) (x : Intake) : (s.setIntake x).mgmt = s.mgmt := rfl
@[simp] theorem State.setIntake_reports (s : State) (x : Intake) : (s.setIntake x).reports = s.reports := rfl
@[simp] theorem State.setIntake_pending (s : State) (x : Intake) : (s.setIntake x).pending = s.pending := rfl

@[simp] theorem State.setLabels_inReset (s : State) (x : LabelUnit) : (s.setLabels x).inReset = s.inReset := rfl
@[simp] theorem State.setLabels_clock (s : State) (x : LabelUnit) : (s.setLabels x).clock = s.clock := rfl
@[simp] theorem State.setLabels_house (s : State) (x : LabelUnit) : (s.setLabels x).house = s.house := rfl
@[simp] theorem State.setLabels_trim (s : State) (x : LabelUnit) : (s.setLabels x).trim = s.trim := rfl
@[simp] theorem State.setLabels_tracker (s : State) (x : LabelUnit) : (s.setLabels x).tracker = s.tracker := rfl
@[simp] theorem State.setLabels_part (s : State) (x : LabelUnit) : (s.setLabels x).part = s.part := rfl
@[simp] theorem State.setLabels_drops (s : State) (x : LabelUnit) : (s.setLabels x).drops = s.drops := rfl
@[simp] theorem State.setLabels_intake (s : State) (x : LabelUnit) : (s.setLabels x).intake = s.intake := rfl
@[simp] theorem State.setLabels_labels (s : State) (x : LabelUnit) : (s.setLabels x).labels = x := rfl
@[simp] theorem State.setLabels_store (s : State) (x : LabelUnit) : (s.setLabels x).store = s.store := rfl
@[simp] theorem State.setLabels_trunk (s : State) (x : LabelUnit) : (s.setLabels x).trunk = s.trunk := rfl
@[simp] theorem State.setLabels_mgmt (s : State) (x : LabelUnit) : (s.setLabels x).mgmt = s.mgmt := rfl
@[simp] theorem State.setLabels_reports (s : State) (x : LabelUnit) : (s.setLabels x).reports = s.reports := rfl
@[simp] theorem State.setLabels_pending (s : State) (x : LabelUnit) : (s.setLabels x).pending = s.pending := rfl

@[simp] theorem State.setStore_inReset (s : State) (x : Store) : (s.setStore x).inReset = s.inReset := rfl
@[simp] theorem State.setStore_clock (s : State) (x : Store) : (s.setStore x).clock = s.clock := rfl
@[simp] theorem State.setStore_house (s : State) (x : Store) : (s.setStore x).house = s.house := rfl
@[simp] theorem State.setStore_trim (s : State) (x : Store) : (s.setStore x).trim = s.trim := rfl
@[simp] theorem State.setStore_tracker (s : State) (x : Store) : (s.setStore x).tracker = s.tracker := rfl
@[simp] theorem State.setStore_part (s : State) (x : Store) : (s.setStore x).part = s.part := rfl
@[simp] theorem State.setStore_drops (s : State) (x : Store) : (s.setStore x).drops = s.drops := rfl
@[simp] theorem State.setStore_intake (s : State) (x : Store) : (s.setStore x).intake = s.intake := rfl
@[simp] theorem State.setStore_labels (s : State) (x : Store) : (s.setStore x).labels = s.labels := rfl
@[simp] theorem State.setStore_store (s : State) (x : Store) : (s.setStore x).store = x := rfl
@[simp] theorem State.setStore_trunk (s : State) (x : Store) : (s.setStore x).trunk = s.trunk := rfl
@[simp] theorem State.setStore_mgmt (s : State) (x : Store) : (s.setStore x).mgmt = s.mgmt := rfl
@[simp] theorem State.setStore_reports (s : State) (x : Store) : (s.setStore x).reports = s.reports := rfl
@[simp] theorem State.setStore_pending (s : State) (x : Store) : (s.setStore x).pending = s.pending := rfl

@[simp] theorem State.setTrunk_inReset (s : State) (x : Trunk) : (s.setTrunk x).inReset = s.inReset := rfl
@[simp] theorem State.setTrunk_clock (s : State) (x : Trunk) : (s.setTrunk x).clock = s.clock := rfl
@[simp] theorem State.setTrunk_house (s : State) (x : Trunk) : (s.setTrunk x).house = s.house := rfl
@[simp] theorem State.setTrunk_trim (s : State) (x : Trunk) : (s.setTrunk x).trim = s.trim := rfl
@[simp] theorem State.setTrunk_tracker (s : State) (x : Trunk) : (s.setTrunk x).tracker = s.tracker := rfl
@[simp] theorem State.setTrunk_part (s : State) (x : Trunk) : (s.setTrunk x).part = s.part := rfl
@[simp] theorem State.setTrunk_drops (s : State) (x : Trunk) : (s.setTrunk x).drops = s.drops := rfl
@[simp] theorem State.setTrunk_intake (s : State) (x : Trunk) : (s.setTrunk x).intake = s.intake := rfl
@[simp] theorem State.setTrunk_labels (s : State) (x : Trunk) : (s.setTrunk x).labels = s.labels := rfl
@[simp] theorem State.setTrunk_store (s : State) (x : Trunk) : (s.setTrunk x).store = s.store := rfl
@[simp] theorem State.setTrunk_trunk (s : State) (x : Trunk) : (s.setTrunk x).trunk = x := rfl
@[simp] theorem State.setTrunk_mgmt (s : State) (x : Trunk) : (s.setTrunk x).mgmt = s.mgmt := rfl
@[simp] theorem State.setTrunk_reports (s : State) (x : Trunk) : (s.setTrunk x).reports = s.reports := rfl
@[simp] theorem State.setTrunk_pending (s : State) (x : Trunk) : (s.setTrunk x).pending = s.pending := rfl

@[simp] theorem State.setMgmt_inReset (s : State) (x : Management) : (s.setMgmt x).inReset = s.inReset := rfl
@[simp] theorem State.setMgmt_clock (s : State) (x : Management) : (s.setMgmt x).clock = s.clock := rfl
@[simp] theorem State.setMgmt_house (s : State) (x : Management) : (s.setMgmt x).house = s.house := rfl
@[simp] theorem State.setMgmt_trim (s : State) (x : Management) : (s.setMgmt x).trim = s.trim := rfl
@[simp] theorem State.setMgmt_tracker (s : State) (x : Management) : (s.setMgmt x).tracker = s.tracker := rfl
@[simp] theorem State.setMgmt_part (s : State) (x : Management) : (s.setMgmt x).part = s.part := rfl
@[simp] theorem State.setMgmt_drops (s : State) (x : Management) : (s.setMgmt x).drops = s.drops := rfl
@[simp] theorem State.setMgmt_intake (s : State) (x : Management) : (s.setMgmt x).intake = s.intake := rfl
@[simp] theorem State.setMgmt_labels (s : State) (x : Management) : (s.setMgmt x).labels = s.labels := rfl
@[simp] theorem State.setMgmt_store (s : State) (x : Management) : (s.setMgmt x).store = s.store := rfl
@[simp] theorem State.setMgmt_trunk (s : State) (x : Management) : (s.setMgmt x).trunk = s.trunk := rfl
@[simp] theorem State.setMgmt_mgmt (s : State) (x : Management) : (s.setMgmt x).mgmt = x := rfl
@[simp] theorem State.setMgmt_reports (s : State) (x : Management) : (s.setMgmt x).reports = s.reports := rfl
@[simp] theorem State.setMgmt_pending (s : State) (x : Management) : (s.setMgmt x).pending = s.pending := rfl

@[simp] theorem State.setReports_inReset (s : State) (x : ReportUnit) : (s.setReports x).inReset = s.inReset := rfl
@[simp] theorem State.setReports_clock (s : State) (x : ReportUnit) : (s.setReports x).clock = s.clock := rfl
@[simp] theorem State.setReports_house (s : State) (x : ReportUnit) : (s.setReports x).house = s.house := rfl
@[simp] theorem State.setReports_trim (s : State) (x : ReportUnit) : (s.setReports x).trim = s.trim := rfl
@[simp] theorem State.setReports_tracker (s : State) (x : ReportUnit) : (s.setReports x).tracker = s.tracker := rfl
@[simp] theorem State.setReports_part (s : State) (x : ReportUnit) : (s.setReports x).part = s.part := rfl
@[simp] theorem State.setReports_drops (s : State) (x : ReportUnit) : (s.setReports x).drops = s.drops := rfl
@[simp] theorem State.setReports_intake (s : State) (x : ReportUnit) : (s.setReports x).intake = s.intake := rfl
@[simp] theorem State.setReports_labels (s : State) (x : ReportUnit) : (s.setReports x).labels = s.labels := rfl
@[simp] theorem State.setReports_store (s : State) (x : ReportUnit) : (s.setReports x).store = s.store := rfl
@[simp] theorem State.setReports_trunk (s : State) (x : ReportUnit) : (s.setReports x).trunk = s.trunk := rfl
@[simp] theorem State.setReports_mgmt (s : State) (x : ReportUnit) : (s.setReports x).mgmt = s.mgmt := rfl
@[simp] theorem State.setReports_reports (s : State) (x : ReportUnit) : (s.setReports x).reports = x := rfl
@[simp] theorem State.setReports_pending (s : State) (x : ReportUnit) : (s.setReports x).pending = s.pending := rfl

end Sys2Proof.Machine
end

