-- ==== Sys2Proof/Laws/Ops.lean ====
section
/-! SUPPORT. What the named operations of Machine/Ops.lean leave alone, what they change, and reading back after
them. -/

namespace Sys2Proof.Machine

/-! ## Blocks an operation does not reach -/

@[simp] theorem State.updDrop_inReset (s : State) (d : DropId) (f : Drop → Drop) : (s.updDrop d f).inReset = s.inReset := rfl
@[simp] theorem State.updDrop_clock (s : State) (d : DropId) (f : Drop → Drop) : (s.updDrop d f).clock = s.clock := rfl
@[simp] theorem State.updDrop_house (s : State) (d : DropId) (f : Drop → Drop) : (s.updDrop d f).house = s.house := rfl
@[simp] theorem State.updDrop_trim (s : State) (d : DropId) (f : Drop → Drop) : (s.updDrop d f).trim = s.trim := rfl
@[simp] theorem State.updDrop_tracker (s : State) (d : DropId) (f : Drop → Drop) : (s.updDrop d f).tracker = s.tracker := rfl
@[simp] theorem State.updDrop_part (s : State) (d : DropId) (f : Drop → Drop) : (s.updDrop d f).part = s.part := rfl
@[simp] theorem State.updDrop_intake (s : State) (d : DropId) (f : Drop → Drop) : (s.updDrop d f).intake = s.intake := rfl
@[simp] theorem State.updDrop_labels (s : State) (d : DropId) (f : Drop → Drop) : (s.updDrop d f).labels = s.labels := rfl
@[simp] theorem State.updDrop_store (s : State) (d : DropId) (f : Drop → Drop) : (s.updDrop d f).store = s.store := rfl
@[simp] theorem State.updDrop_trunk (s : State) (d : DropId) (f : Drop → Drop) : (s.updDrop d f).trunk = s.trunk := rfl
@[simp] theorem State.updDrop_mgmt (s : State) (d : DropId) (f : Drop → Drop) : (s.updDrop d f).mgmt = s.mgmt := rfl
@[simp] theorem State.updDrop_reports (s : State) (d : DropId) (f : Drop → Drop) : (s.updDrop d f).reports = s.reports := rfl
@[simp] theorem State.updDrop_pending (s : State) (d : DropId) (f : Drop → Drop) : (s.updDrop d f).pending = s.pending := rfl

@[simp] theorem State.updAllDrops_inReset (s : State) (f : Drop → Drop) : (s.updAllDrops f).inReset = s.inReset := rfl
@[simp] theorem State.updAllDrops_clock (s : State) (f : Drop → Drop) : (s.updAllDrops f).clock = s.clock := rfl
@[simp] theorem State.updAllDrops_house (s : State) (f : Drop → Drop) : (s.updAllDrops f).house = s.house := rfl
@[simp] theorem State.updAllDrops_trim (s : State) (f : Drop → Drop) : (s.updAllDrops f).trim = s.trim := rfl
@[simp] theorem State.updAllDrops_tracker (s : State) (f : Drop → Drop) : (s.updAllDrops f).tracker = s.tracker := rfl
@[simp] theorem State.updAllDrops_part (s : State) (f : Drop → Drop) : (s.updAllDrops f).part = s.part := rfl
@[simp] theorem State.updAllDrops_intake (s : State) (f : Drop → Drop) : (s.updAllDrops f).intake = s.intake := rfl
@[simp] theorem State.updAllDrops_labels (s : State) (f : Drop → Drop) : (s.updAllDrops f).labels = s.labels := rfl
@[simp] theorem State.updAllDrops_store (s : State) (f : Drop → Drop) : (s.updAllDrops f).store = s.store := rfl
@[simp] theorem State.updAllDrops_trunk (s : State) (f : Drop → Drop) : (s.updAllDrops f).trunk = s.trunk := rfl
@[simp] theorem State.updAllDrops_mgmt (s : State) (f : Drop → Drop) : (s.updAllDrops f).mgmt = s.mgmt := rfl
@[simp] theorem State.updAllDrops_reports (s : State) (f : Drop → Drop) : (s.updAllDrops f).reports = s.reports := rfl
@[simp] theorem State.updAllDrops_pending (s : State) (f : Drop → Drop) : (s.updAllDrops f).pending = s.pending := rfl

@[simp] theorem State.updProfile_inReset (s : State) (d : DropId) (f : Profile → Profile) : (s.updProfile d f).inReset = s.inReset := rfl
@[simp] theorem State.updProfile_clock (s : State) (d : DropId) (f : Profile → Profile) : (s.updProfile d f).clock = s.clock := rfl
@[simp] theorem State.updProfile_house (s : State) (d : DropId) (f : Profile → Profile) : (s.updProfile d f).house = s.house := rfl
@[simp] theorem State.updProfile_trim (s : State) (d : DropId) (f : Profile → Profile) : (s.updProfile d f).trim = s.trim := rfl
@[simp] theorem State.updProfile_tracker (s : State) (d : DropId) (f : Profile → Profile) : (s.updProfile d f).tracker = s.tracker := rfl
@[simp] theorem State.updProfile_part (s : State) (d : DropId) (f : Profile → Profile) : (s.updProfile d f).part = s.part := rfl
@[simp] theorem State.updProfile_intake (s : State) (d : DropId) (f : Profile → Profile) : (s.updProfile d f).intake = s.intake := rfl
@[simp] theorem State.updProfile_labels (s : State) (d : DropId) (f : Profile → Profile) : (s.updProfile d f).labels = s.labels := rfl
@[simp] theorem State.updProfile_store (s : State) (d : DropId) (f : Profile → Profile) : (s.updProfile d f).store = s.store := rfl
@[simp] theorem State.updProfile_trunk (s : State) (d : DropId) (f : Profile → Profile) : (s.updProfile d f).trunk = s.trunk := rfl
@[simp] theorem State.updProfile_mgmt (s : State) (d : DropId) (f : Profile → Profile) : (s.updProfile d f).mgmt = s.mgmt := rfl
@[simp] theorem State.updProfile_reports (s : State) (d : DropId) (f : Profile → Profile) : (s.updProfile d f).reports = s.reports := rfl
@[simp] theorem State.updProfile_pending (s : State) (d : DropId) (f : Profile → Profile) : (s.updProfile d f).pending = s.pending := rfl

@[simp] theorem State.updCadence_inReset (s : State) (d : DropId) (f : Cadence → Cadence) : (s.updCadence d f).inReset = s.inReset := rfl
@[simp] theorem State.updCadence_clock (s : State) (d : DropId) (f : Cadence → Cadence) : (s.updCadence d f).clock = s.clock := rfl
@[simp] theorem State.updCadence_house (s : State) (d : DropId) (f : Cadence → Cadence) : (s.updCadence d f).house = s.house := rfl
@[simp] theorem State.updCadence_trim (s : State) (d : DropId) (f : Cadence → Cadence) : (s.updCadence d f).trim = s.trim := rfl
@[simp] theorem State.updCadence_tracker (s : State) (d : DropId) (f : Cadence → Cadence) : (s.updCadence d f).tracker = s.tracker := rfl
@[simp] theorem State.updCadence_part (s : State) (d : DropId) (f : Cadence → Cadence) : (s.updCadence d f).part = s.part := rfl
@[simp] theorem State.updCadence_intake (s : State) (d : DropId) (f : Cadence → Cadence) : (s.updCadence d f).intake = s.intake := rfl
@[simp] theorem State.updCadence_labels (s : State) (d : DropId) (f : Cadence → Cadence) : (s.updCadence d f).labels = s.labels := rfl
@[simp] theorem State.updCadence_store (s : State) (d : DropId) (f : Cadence → Cadence) : (s.updCadence d f).store = s.store := rfl
@[simp] theorem State.updCadence_trunk (s : State) (d : DropId) (f : Cadence → Cadence) : (s.updCadence d f).trunk = s.trunk := rfl
@[simp] theorem State.updCadence_mgmt (s : State) (d : DropId) (f : Cadence → Cadence) : (s.updCadence d f).mgmt = s.mgmt := rfl
@[simp] theorem State.updCadence_reports (s : State) (d : DropId) (f : Cadence → Cadence) : (s.updCadence d f).reports = s.reports := rfl
@[simp] theorem State.updCadence_pending (s : State) (d : DropId) (f : Cadence → Cadence) : (s.updCadence d f).pending = s.pending := rfl

@[simp] theorem State.updDf_inReset (s : State) (d : DropId) (f : DfLine → DfLine) : (s.updDf d f).inReset = s.inReset := rfl
@[simp] theorem State.updDf_clock (s : State) (d : DropId) (f : DfLine → DfLine) : (s.updDf d f).clock = s.clock := rfl
@[simp] theorem State.updDf_house (s : State) (d : DropId) (f : DfLine → DfLine) : (s.updDf d f).house = s.house := rfl
@[simp] theorem State.updDf_trim (s : State) (d : DropId) (f : DfLine → DfLine) : (s.updDf d f).trim = s.trim := rfl
@[simp] theorem State.updDf_tracker (s : State) (d : DropId) (f : DfLine → DfLine) : (s.updDf d f).tracker = s.tracker := rfl
@[simp] theorem State.updDf_part (s : State) (d : DropId) (f : DfLine → DfLine) : (s.updDf d f).part = s.part := rfl
@[simp] theorem State.updDf_intake (s : State) (d : DropId) (f : DfLine → DfLine) : (s.updDf d f).intake = s.intake := rfl
@[simp] theorem State.updDf_labels (s : State) (d : DropId) (f : DfLine → DfLine) : (s.updDf d f).labels = s.labels := rfl
@[simp] theorem State.updDf_store (s : State) (d : DropId) (f : DfLine → DfLine) : (s.updDf d f).store = s.store := rfl
@[simp] theorem State.updDf_trunk (s : State) (d : DropId) (f : DfLine → DfLine) : (s.updDf d f).trunk = s.trunk := rfl
@[simp] theorem State.updDf_mgmt (s : State) (d : DropId) (f : DfLine → DfLine) : (s.updDf d f).mgmt = s.mgmt := rfl
@[simp] theorem State.updDf_reports (s : State) (d : DropId) (f : DfLine → DfLine) : (s.updDf d f).reports = s.reports := rfl
@[simp] theorem State.updDf_pending (s : State) (d : DropId) (f : DfLine → DfLine) : (s.updDf d f).pending = s.pending := rfl

@[simp] theorem State.updLine_inReset (s : State) (d : DropId) (f : Line → Line) : (s.updLine d f).inReset = s.inReset := rfl
@[simp] theorem State.updLine_clock (s : State) (d : DropId) (f : Line → Line) : (s.updLine d f).clock = s.clock := rfl
@[simp] theorem State.updLine_house (s : State) (d : DropId) (f : Line → Line) : (s.updLine d f).house = s.house := rfl
@[simp] theorem State.updLine_trim (s : State) (d : DropId) (f : Line → Line) : (s.updLine d f).trim = s.trim := rfl
@[simp] theorem State.updLine_tracker (s : State) (d : DropId) (f : Line → Line) : (s.updLine d f).tracker = s.tracker := rfl
@[simp] theorem State.updLine_part (s : State) (d : DropId) (f : Line → Line) : (s.updLine d f).part = s.part := rfl
@[simp] theorem State.updLine_intake (s : State) (d : DropId) (f : Line → Line) : (s.updLine d f).intake = s.intake := rfl
@[simp] theorem State.updLine_labels (s : State) (d : DropId) (f : Line → Line) : (s.updLine d f).labels = s.labels := rfl
@[simp] theorem State.updLine_store (s : State) (d : DropId) (f : Line → Line) : (s.updLine d f).store = s.store := rfl
@[simp] theorem State.updLine_trunk (s : State) (d : DropId) (f : Line → Line) : (s.updLine d f).trunk = s.trunk := rfl
@[simp] theorem State.updLine_mgmt (s : State) (d : DropId) (f : Line → Line) : (s.updLine d f).mgmt = s.mgmt := rfl
@[simp] theorem State.updLine_reports (s : State) (d : DropId) (f : Line → Line) : (s.updLine d f).reports = s.reports := rfl
@[simp] theorem State.updLine_pending (s : State) (d : DropId) (f : Line → Line) : (s.updLine d f).pending = s.pending := rfl

@[simp] theorem State.updTake_inReset (s : State) (d : DropId) (f : Take → Take) : (s.updTake d f).inReset = s.inReset := rfl
@[simp] theorem State.updTake_clock (s : State) (d : DropId) (f : Take → Take) : (s.updTake d f).clock = s.clock := rfl
@[simp] theorem State.updTake_house (s : State) (d : DropId) (f : Take → Take) : (s.updTake d f).house = s.house := rfl
@[simp] theorem State.updTake_trim (s : State) (d : DropId) (f : Take → Take) : (s.updTake d f).trim = s.trim := rfl
@[simp] theorem State.updTake_tracker (s : State) (d : DropId) (f : Take → Take) : (s.updTake d f).tracker = s.tracker := rfl
@[simp] theorem State.updTake_part (s : State) (d : DropId) (f : Take → Take) : (s.updTake d f).part = s.part := rfl
@[simp] theorem State.updTake_intake (s : State) (d : DropId) (f : Take → Take) : (s.updTake d f).intake = s.intake := rfl
@[simp] theorem State.updTake_labels (s : State) (d : DropId) (f : Take → Take) : (s.updTake d f).labels = s.labels := rfl
@[simp] theorem State.updTake_store (s : State) (d : DropId) (f : Take → Take) : (s.updTake d f).store = s.store := rfl
@[simp] theorem State.updTake_trunk (s : State) (d : DropId) (f : Take → Take) : (s.updTake d f).trunk = s.trunk := rfl
@[simp] theorem State.updTake_mgmt (s : State) (d : DropId) (f : Take → Take) : (s.updTake d f).mgmt = s.mgmt := rfl
@[simp] theorem State.updTake_reports (s : State) (d : DropId) (f : Take → Take) : (s.updTake d f).reports = s.reports := rfl
@[simp] theorem State.updTake_pending (s : State) (d : DropId) (f : Take → Take) : (s.updTake d f).pending = s.pending := rfl

@[simp] theorem State.updCounters_inReset (s : State) (d : DropId) (f : DropCounters → DropCounters) : (s.updCounters d f).inReset = s.inReset := rfl
@[simp] theorem State.updCounters_clock (s : State) (d : DropId) (f : DropCounters → DropCounters) : (s.updCounters d f).clock = s.clock := rfl
@[simp] theorem State.updCounters_house (s : State) (d : DropId) (f : DropCounters → DropCounters) : (s.updCounters d f).house = s.house := rfl
@[simp] theorem State.updCounters_trim (s : State) (d : DropId) (f : DropCounters → DropCounters) : (s.updCounters d f).trim = s.trim := rfl
@[simp] theorem State.updCounters_tracker (s : State) (d : DropId) (f : DropCounters → DropCounters) : (s.updCounters d f).tracker = s.tracker := rfl
@[simp] theorem State.updCounters_part (s : State) (d : DropId) (f : DropCounters → DropCounters) : (s.updCounters d f).part = s.part := rfl
@[simp] theorem State.updCounters_intake (s : State) (d : DropId) (f : DropCounters → DropCounters) : (s.updCounters d f).intake = s.intake := rfl
@[simp] theorem State.updCounters_labels (s : State) (d : DropId) (f : DropCounters → DropCounters) : (s.updCounters d f).labels = s.labels := rfl
@[simp] theorem State.updCounters_store (s : State) (d : DropId) (f : DropCounters → DropCounters) : (s.updCounters d f).store = s.store := rfl
@[simp] theorem State.updCounters_trunk (s : State) (d : DropId) (f : DropCounters → DropCounters) : (s.updCounters d f).trunk = s.trunk := rfl
@[simp] theorem State.updCounters_mgmt (s : State) (d : DropId) (f : DropCounters → DropCounters) : (s.updCounters d f).mgmt = s.mgmt := rfl
@[simp] theorem State.updCounters_reports (s : State) (d : DropId) (f : DropCounters → DropCounters) : (s.updCounters d f).reports = s.reports := rfl
@[simp] theorem State.updCounters_pending (s : State) (d : DropId) (f : DropCounters → DropCounters) : (s.updCounters d f).pending = s.pending := rfl

@[simp] theorem State.latch_inReset (s : State) (c : Cause) (d : Option DropId) : (s.latch c d).inReset = s.inReset := rfl
@[simp] theorem State.latch_clock (s : State) (c : Cause) (d : Option DropId) : (s.latch c d).clock = s.clock := rfl
@[simp] theorem State.latch_house (s : State) (c : Cause) (d : Option DropId) : (s.latch c d).house = s.house := rfl
@[simp] theorem State.latch_trim (s : State) (c : Cause) (d : Option DropId) : (s.latch c d).trim = s.trim := rfl
@[simp] theorem State.latch_tracker (s : State) (c : Cause) (d : Option DropId) : (s.latch c d).tracker = s.tracker := rfl
@[simp] theorem State.latch_part (s : State) (c : Cause) (d : Option DropId) : (s.latch c d).part = s.part := rfl
@[simp] theorem State.latch_drops (s : State) (c : Cause) (d : Option DropId) : (s.latch c d).drops = s.drops := rfl
@[simp] theorem State.latch_intake (s : State) (c : Cause) (d : Option DropId) : (s.latch c d).intake = s.intake := rfl
@[simp] theorem State.latch_labels (s : State) (c : Cause) (d : Option DropId) : (s.latch c d).labels = s.labels := rfl
@[simp] theorem State.latch_store (s : State) (c : Cause) (d : Option DropId) : (s.latch c d).store = s.store := rfl
@[simp] theorem State.latch_trunk (s : State) (c : Cause) (d : Option DropId) : (s.latch c d).trunk = s.trunk := rfl
@[simp] theorem State.latch_mgmt (s : State) (c : Cause) (d : Option DropId) : (s.latch c d).mgmt = s.mgmt := rfl
@[simp] theorem State.latch_pending (s : State) (c : Cause) (d : Option DropId) : (s.latch c d).pending = s.pending := rfl

@[simp] theorem State.updRegion_inReset (s : State) (r : RegionId) (f : Region → Region) : (s.updRegion r f).inReset = s.inReset := rfl
@[simp] theorem State.updRegion_clock (s : State) (r : RegionId) (f : Region → Region) : (s.updRegion r f).clock = s.clock := rfl
@[simp] theorem State.updRegion_house (s : State) (r : RegionId) (f : Region → Region) : (s.updRegion r f).house = s.house := rfl
@[simp] theorem State.updRegion_trim (s : State) (r : RegionId) (f : Region → Region) : (s.updRegion r f).trim = s.trim := rfl
@[simp] theorem State.updRegion_tracker (s : State) (r : RegionId) (f : Region → Region) : (s.updRegion r f).tracker = s.tracker := rfl
@[simp] theorem State.updRegion_part (s : State) (r : RegionId) (f : Region → Region) : (s.updRegion r f).part = s.part := rfl
@[simp] theorem State.updRegion_drops (s : State) (r : RegionId) (f : Region → Region) : (s.updRegion r f).drops = s.drops := rfl
@[simp] theorem State.updRegion_intake (s : State) (r : RegionId) (f : Region → Region) : (s.updRegion r f).intake = s.intake := rfl
@[simp] theorem State.updRegion_labels (s : State) (r : RegionId) (f : Region → Region) : (s.updRegion r f).labels = s.labels := rfl
@[simp] theorem State.updRegion_trunk (s : State) (r : RegionId) (f : Region → Region) : (s.updRegion r f).trunk = s.trunk := rfl
@[simp] theorem State.updRegion_mgmt (s : State) (r : RegionId) (f : Region → Region) : (s.updRegion r f).mgmt = s.mgmt := rfl
@[simp] theorem State.updRegion_reports (s : State) (r : RegionId) (f : Region → Region) : (s.updRegion r f).reports = s.reports := rfl
@[simp] theorem State.updRegion_pending (s : State) (r : RegionId) (f : Region → Region) : (s.updRegion r f).pending = s.pending := rfl

@[simp] theorem State.updAllRegions_inReset (s : State) (f : Region → Region) : (s.updAllRegions f).inReset = s.inReset := rfl
@[simp] theorem State.updAllRegions_clock (s : State) (f : Region → Region) : (s.updAllRegions f).clock = s.clock := rfl
@[simp] theorem State.updAllRegions_house (s : State) (f : Region → Region) : (s.updAllRegions f).house = s.house := rfl
@[simp] theorem State.updAllRegions_trim (s : State) (f : Region → Region) : (s.updAllRegions f).trim = s.trim := rfl
@[simp] theorem State.updAllRegions_tracker (s : State) (f : Region → Region) : (s.updAllRegions f).tracker = s.tracker := rfl
@[simp] theorem State.updAllRegions_part (s : State) (f : Region → Region) : (s.updAllRegions f).part = s.part := rfl
@[simp] theorem State.updAllRegions_drops (s : State) (f : Region → Region) : (s.updAllRegions f).drops = s.drops := rfl
@[simp] theorem State.updAllRegions_intake (s : State) (f : Region → Region) : (s.updAllRegions f).intake = s.intake := rfl
@[simp] theorem State.updAllRegions_labels (s : State) (f : Region → Region) : (s.updAllRegions f).labels = s.labels := rfl
@[simp] theorem State.updAllRegions_trunk (s : State) (f : Region → Region) : (s.updAllRegions f).trunk = s.trunk := rfl
@[simp] theorem State.updAllRegions_mgmt (s : State) (f : Region → Region) : (s.updAllRegions f).mgmt = s.mgmt := rfl
@[simp] theorem State.updAllRegions_reports (s : State) (f : Region → Region) : (s.updAllRegions f).reports = s.reports := rfl
@[simp] theorem State.updAllRegions_pending (s : State) (f : Region → Region) : (s.updAllRegions f).pending = s.pending := rfl

@[simp] theorem State.atDivider_inReset (s : State) (k : DividerCount) : (s.atDivider k).inReset = s.inReset := rfl
@[simp] theorem State.atDivider_house (s : State) (k : DividerCount) : (s.atDivider k).house = s.house := rfl
@[simp] theorem State.atDivider_trim (s : State) (k : DividerCount) : (s.atDivider k).trim = s.trim := rfl
@[simp] theorem State.atDivider_tracker (s : State) (k : DividerCount) : (s.atDivider k).tracker = s.tracker := rfl
@[simp] theorem State.atDivider_part (s : State) (k : DividerCount) : (s.atDivider k).part = s.part := rfl
@[simp] theorem State.atDivider_drops (s : State) (k : DividerCount) : (s.atDivider k).drops = s.drops := rfl
@[simp] theorem State.atDivider_intake (s : State) (k : DividerCount) : (s.atDivider k).intake = s.intake := rfl
@[simp] theorem State.atDivider_labels (s : State) (k : DividerCount) : (s.atDivider k).labels = s.labels := rfl
@[simp] theorem State.atDivider_store (s : State) (k : DividerCount) : (s.atDivider k).store = s.store := rfl
@[simp] theorem State.atDivider_trunk (s : State) (k : DividerCount) : (s.atDivider k).trunk = s.trunk := rfl
@[simp] theorem State.atDivider_mgmt (s : State) (k : DividerCount) : (s.atDivider k).mgmt = s.mgmt := rfl
@[simp] theorem State.atDivider_reports (s : State) (k : DividerCount) : (s.atDivider k).reports = s.reports := rfl
@[simp] theorem State.atDivider_pending (s : State) (k : DividerCount) : (s.atDivider k).pending = s.pending := rfl

@[simp] theorem State.updPort_inReset (s : State) (side : Side) (f : Port → Port) : (s.updPort side f).inReset = s.inReset := by
  cases side <;> rfl
@[simp] theorem State.updPort_clock (s : State) (side : Side) (f : Port → Port) : (s.updPort side f).clock = s.clock := by
  cases side <;> rfl
@[simp] theorem State.updPort_house (s : State) (side : Side) (f : Port → Port) : (s.updPort side f).house = s.house := by
  cases side <;> rfl
@[simp] theorem State.updPort_trim (s : State) (side : Side) (f : Port → Port) : (s.updPort side f).trim = s.trim := by
  cases side <;> rfl
@[simp] theorem State.updPort_tracker (s : State) (side : Side) (f : Port → Port) : (s.updPort side f).tracker = s.tracker := by
  cases side <;> rfl
@[simp] theorem State.updPort_part (s : State) (side : Side) (f : Port → Port) : (s.updPort side f).part = s.part := by
  cases side <;> rfl
@[simp] theorem State.updPort_drops (s : State) (side : Side) (f : Port → Port) : (s.updPort side f).drops = s.drops := by
  cases side <;> rfl
@[simp] theorem State.updPort_intake (s : State) (side : Side) (f : Port → Port) : (s.updPort side f).intake = s.intake := by
  cases side <;> rfl
@[simp] theorem State.updPort_labels (s : State) (side : Side) (f : Port → Port) : (s.updPort side f).labels = s.labels := by
  cases side <;> rfl
@[simp] theorem State.updPort_store (s : State) (side : Side) (f : Port → Port) : (s.updPort side f).store = s.store := by
  cases side <;> rfl
@[simp] theorem State.updPort_mgmt (s : State) (side : Side) (f : Port → Port) : (s.updPort side f).mgmt = s.mgmt := by
  cases side <;> rfl
@[simp] theorem State.updPort_reports (s : State) (side : Side) (f : Port → Port) : (s.updPort side f).reports = s.reports := by
  cases side <;> rfl
@[simp] theorem State.updPort_pending (s : State) (side : Side) (f : Port → Port) : (s.updPort side f).pending = s.pending := by
  cases side <;> rfl

/-! ## Drops -/

@[simp] theorem State.drop_updDrop_self (s : State) (d : DropId) (f : Drop → Drop) :
    (s.updDrop d f).drop d = f (s.drop d) := by
  simp [State.updDrop, State.setDrops, State.drop]

theorem State.drop_updDrop_ne (s : State) {d e : DropId} (f : Drop → Drop) (h : e ≠ d) :
    (s.updDrop d f).drop e = s.drop e := by
  have h' : d.val ≠ e.val := fun x => h (Fin.ext x.symm)
  simp [State.updDrop, State.setDrops, State.drop, Vector.getElem_set_ne, h']

theorem State.drop_updDrop (s : State) (d e : DropId) (f : Drop → Drop) :
    (s.updDrop d f).drop e = if e = d then f (s.drop e) else s.drop e := by
  split
  next h => subst h; exact State.drop_updDrop_self s e f
  next h => exact State.drop_updDrop_ne s f h

theorem vmap_get {α β : Type} {n : Nat} (f : α → β) (v : Vector α n) (i : Nat) (h : i < n) :
    (vmap f v)[i] = f v[i] := by
  simp [vmap]

@[simp] theorem State.drop_updAllDrops (s : State) (f : Drop → Drop) (d : DropId) :
    (s.updAllDrops f).drop d = f (s.drop d) := vmap_get f s.drops d.val d.isLt

theorem State.drop_eq_of_drops {s t : State} (h : t.drops = s.drops) (d : DropId) : t.drop d = s.drop d := by
  simp [State.drop, h]

theorem State.drop_updProfile (s : State) (d e : DropId) (f : Profile → Profile) :
    (s.updProfile d f).drop e = if e = d then { s.drop e with profile := f (s.drop e).profile } else s.drop e :=
  State.drop_updDrop s d e _

theorem State.drop_updCadence (s : State) (d e : DropId) (f : Cadence → Cadence) :
    (s.updCadence d f).drop e = if e = d then { s.drop e with cadence := f (s.drop e).cadence } else s.drop e :=
  State.drop_updDrop s d e _

theorem State.drop_updDf (s : State) (d e : DropId) (f : DfLine → DfLine) :
    (s.updDf d f).drop e = if e = d then { s.drop e with df := f (s.drop e).df } else s.drop e :=
  State.drop_updDrop s d e _

/-- Driving DF at the level of an instant reaches nothing but that level. -/
theorem State.drop_driveDf (s : State) (d e : DropId) (k : DividerCount) :
    (s.driveDf d k).drop e =
      if e = d then { s.drop e with df := { (s.drop e).df with level := s.dfLevel d k } } else s.drop e :=
  State.drop_updDf s d e _

/-- A line that does not follow a word clock has the level it is driven at, whatever the instant. -/
theorem State.dfLevel_of_not_followsWord (s : State) (d : DropId) (k : DividerCount)
    (h : (s.drop d).followsWord = false) : s.dfLevel d k = (s.drop d).df.level := by
  simp [State.dfLevel, h]

@[simp] theorem wordBits_length (w : Word) : (wordBits w).length = 16 := by simp [wordBits]

/-- Reading the bit periods of bits gives the bits. -/
@[simp] theorem dataBits_map_data (bs : List Bool) : dataBits (bs.map .data) = some bs := by
  induction bs with
  | nil => rfl
  | cons b bs ih => simp [dataBits, ih]

theorem State.drop_updLine (s : State) (d e : DropId) (f : Line → Line) :
    (s.updLine d f).drop e = if e = d then { s.drop e with line := f (s.drop e).line } else s.drop e :=
  State.drop_updDrop s d e _

theorem State.drop_updTake (s : State) (d e : DropId) (f : Take → Take) :
    (s.updTake d f).drop e = if e = d then { s.drop e with take := f (s.drop e).take } else s.drop e :=
  State.drop_updDrop s d e _

theorem State.drop_updCounters (s : State) (d e : DropId) (f : DropCounters → DropCounters) :
    (s.updCounters d f).drop e =
      if e = d then
        { s.drop e with line := { (s.drop e).line with counters := f (s.drop e).line.counters } }
      else s.drop e :=
  State.drop_updDrop s d e _

/-- Two updates of one drop are one. -/
theorem State.updDrop_updDrop (s : State) (d : DropId) (f g : Drop → Drop) :
    (s.updDrop d f).updDrop d g = s.updDrop d (fun x => g (f x)) := by
  simp only [State.updDrop, State.drop, State.setDrops]
  congr 1
  simp

/-- An update that leaves a drop as it is leaves the state as it is. -/
theorem State.updDrop_same (s : State) (d : DropId) (f : Drop → Drop) (h : f (s.drop d) = s.drop d) :
    s.updDrop d f = s := by
  simp only [State.updDrop, h]
  simp [State.setDrops, State.drop]

/-- An update of one drop changes that drop and nothing else. -/
theorem State.onlyDrop_updDrop (s : State) (d : DropId) (f : Drop → Drop) : OnlyDrop d s (s.updDrop d f) :=
  ⟨rfl, fun _ h => State.drop_updDrop_ne s f h⟩

/-! ## Regions -/

@[simp] theorem State.region_updRegion_self (s : State) (r : RegionId) (f : Region → Region) :
    (s.updRegion r f).region r = f (s.region r) := by
  simp [State.updRegion, State.setStore, State.region]

theorem State.region_updRegion_ne (s : State) {r q : RegionId} (f : Region → Region) (h : q ≠ r) :
    (s.updRegion r f).region q = s.region q := by
  have h' : r.val ≠ q.val := fun x => h (Fin.ext x.symm)
  simp [State.updRegion, State.setStore, State.region, Vector.getElem_set_ne, h']

theorem State.region_updRegion (s : State) (r q : RegionId) (f : Region → Region) :
    (s.updRegion r f).region q = if q = r then f (s.region q) else s.region q := by
  split
  next h => subst h; exact State.region_updRegion_self s q f
  next h => exact State.region_updRegion_ne s f h

@[simp] theorem State.region_updAllRegions (s : State) (f : Region → Region) (r : RegionId) :
    (s.updAllRegions f).region r = f (s.region r) := vmap_get f s.store.regions r.val r.isLt

theorem State.region_eq_of_store {s t : State} (h : t.store = s.store) (r : RegionId) :
    t.region r = s.region r := by
  simp [State.region, h]

/-! ## Latches -/

@[simp] theorem State.latchOf_latch_self (s : State) (c : Cause) (d : Option DropId) :
    (s.latch c d).latchOf c = (s.latchOf c).add d := by
  simp [State.latch, State.latchOf, State.setReports]

theorem Cause.index_injective {c c' : Cause} (h : c.index = c'.index) : c = c' := by
  revert h; cases c <;> cases c' <;> decide

theorem State.latchOf_latch_ne (s : State) {c c' : Cause} (d : Option DropId) (h : c' ≠ c) :
    (s.latch c d).latchOf c' = s.latchOf c' := by
  have h' : c.index.val ≠ c'.index.val := fun x => h (Cause.index_injective (Fin.ext x.symm))
  simp [State.latch, State.latchOf, State.setReports, Vector.getElem_set_ne, h']

/-- What a latching does. -/
theorem State.latch_spec (s : State) (c : Cause) (d : Option DropId) : LatchedExactly [c] d s (s.latch c d) := by
  refine ⟨rfl, fun c' => ?_⟩
  by_cases h : c' = c
  · subst h
    cases d <;> simp [Latch.add, satInc]
  · simp [h, State.latchOf_latch_ne s d h]

/-! ## Ports -/

@[simp] theorem State.port_updPort_self (s : State) (side : Side) (f : Port → Port) :
    (s.updPort side f).port side = f (s.port side) := by
  cases side <;> rfl

theorem State.port_updPort_ne (s : State) {side other : Side} (f : Port → Port) (h : other ≠ side) :
    (s.updPort side f).port other = s.port other := by
  cases side <;> cases other <;> first | rfl | exact absurd rfl h

/-! ## Events that fall together -/

/-- Where no expiry acts, the missing-TIME expiry does nothing. -/
theorem State.missingTimeExpiry_of_settled {s : State} (h : ¬ s.ExpiryActs) : s.missingTimeExpiry = s := by
  unfold State.missingTimeExpiry
  split
  next hd =>
    obtain ⟨hdue, hacts⟩ := Bool.and_eq_true_iff.mp hd
    refine absurd ⟨hdue, ?_⟩ h
    cases hs : s.tracker.state <;> simp_all [TrackerState.actsOnExpiry]
  next => rfl

/-- After the missing-TIME expiry none acts. -/
theorem State.settled_missingTimeExpiry (s : State) : ¬ s.missingTimeExpiry.ExpiryActs := by
  unfold State.missingTimeExpiry State.ExpiryActs
  split
  next =>
    unfold State.latchLockLost
    split <;> simp [State.enterFreewheel, State.setCorrection]
  next hd =>
    rintro ⟨hdue, hs⟩
    rcases hs with hs | hs | hs <;> simp [hdue, hs, TrackerState.actsOnExpiry] at hd

theorem State.resetNext_iff (s : State) : s.resetNext = true ↔ s.ResetNext := by
  unfold State.resetNext State.ResetNext
  cases s.mgmt.queue with
  | nil => simp
  | cons r rest => cases s.mgmt.held <;> simp

/-! ## Running -/

@[simp] theorem whenRunning_running {s : State} (effect : State → State) (h : s.inReset = false) :
    whenRunning s effect = .next (effect s) := by
  simp [whenRunning, h]

@[simp] theorem whenRunning_inReset {s : State} (effect : State → State) (h : s.inReset = true) :
    whenRunning s effect = .next s := by
  simp [whenRunning, h]

end Sys2Proof.Machine
end

