-- ==== Sys2Proof/Laws/Frames.lean ====
section
/-! SUPPORT. Which blocks of the state each operation can change: one lemma for each shared operation, from which every
block that it leaves alone is read off (`Touches.part`, `Touches.trunk`, ...). -/

namespace Sys2Proof.Machine

/-- The blocks of the state. -/
inductive Block where
  | inReset
  | clock
  | house
  | trim
  | tracker
  | part
  | drops
  | intake
  | labels
  | store
  | trunk
  | mgmt
  | reports
  | pending
  deriving DecidableEq, Repr

/-- Two states agree on a block. -/
def Block.agrees (s t : State) : Block → Prop
  | .inReset => t.inReset = s.inReset
  | .clock => t.clock = s.clock
  | .house => t.house = s.house
  | .trim => t.trim = s.trim
  | .tracker => t.tracker = s.tracker
  | .part => t.part = s.part
  | .drops => t.drops = s.drops
  | .intake => t.intake = s.intake
  | .labels => t.labels = s.labels
  | .store => t.store = s.store
  | .trunk => t.trunk = s.trunk
  | .mgmt => t.mgmt = s.mgmt
  | .reports => t.reports = s.reports
  | .pending => t.pending = s.pending

/-- From `s` to `t`, only the blocks listed may have changed. -/
structure Touches (bs : List Block) (s t : State) : Prop where
  others : ∀ b, bs.contains b = false → b.agrees s t

theorem Block.agrees_refl (s : State) (b : Block) : b.agrees s s := by cases b <;> rfl

theorem Block.agrees_trans {s t u : State} {b : Block} (h : b.agrees s t) (h' : b.agrees t u) : b.agrees s u := by
  cases b <;> exact Eq.trans h' h

theorem Touches.refl (bs : List Block) (s : State) : Touches bs s s := ⟨fun b _ => b.agrees_refl s⟩

theorem Touches.trans {bs : List Block} {s t u : State} (h : Touches bs s t) (h' : Touches bs t u) :
    Touches bs s u := ⟨fun b hb => Block.agrees_trans (h.others b hb) (h'.others b hb)⟩

theorem Touches.mono {bs cs : List Block} {s t : State} (h : Touches bs s t)
    (sub : bs.all (fun b => cs.contains b) = true) : Touches cs s t := by
  refine ⟨fun b hb => h.others b (Bool.eq_false_iff.2 fun hc => ?_)⟩
  have hm : cs.contains b = true := List.all_eq_true.1 sub b (List.contains_iff_mem.1 hc)
  rw [hm] at hb
  cases hb

theorem Touches.step {bs cs : List Block} {s t u : State} (h' : Touches cs t u)
    (sub : cs.all (fun b => bs.contains b) = true) (h : Touches bs s t) : Touches bs s u := h.trans (h'.mono sub)

theorem Touches.foldl {α : Type} {bs : List Block} {f : State → α → State} (h : ∀ s x, Touches bs s (f s x))
    (l : List α) (s : State) : Touches bs s (l.foldl f s) := by
  induction l generalizing s with
  | nil => exact Touches.refl bs s
  | cons x l ih => exact (h s x).trans (ih (f s x))

theorem Touches.inReset {bs : List Block} {s t : State} (h : Touches bs s t) (hb : bs.contains .inReset = false) :
    t.inReset = s.inReset := h.others .inReset hb

theorem Touches.clock {bs : List Block} {s t : State} (h : Touches bs s t) (hb : bs.contains .clock = false) :
    t.clock = s.clock := h.others .clock hb

theorem Touches.house {bs : List Block} {s t : State} (h : Touches bs s t) (hb : bs.contains .house = false) :
    t.house = s.house := h.others .house hb

theorem Touches.trim {bs : List Block} {s t : State} (h : Touches bs s t) (hb : bs.contains .trim = false) :
    t.trim = s.trim := h.others .trim hb

theorem Touches.tracker {bs : List Block} {s t : State} (h : Touches bs s t) (hb : bs.contains .tracker = false) :
    t.tracker = s.tracker := h.others .tracker hb

theorem Touches.part {bs : List Block} {s t : State} (h : Touches bs s t) (hb : bs.contains .part = false) :
    t.part = s.part := h.others .part hb

theorem Touches.drops {bs : List Block} {s t : State} (h : Touches bs s t) (hb : bs.contains .drops = false) :
    t.drops = s.drops := h.others .drops hb

theorem Touches.intake {bs : List Block} {s t : State} (h : Touches bs s t) (hb : bs.contains .intake = false) :
    t.intake = s.intake := h.others .intake hb

theorem Touches.labels {bs : List Block} {s t : State} (h : Touches bs s t) (hb : bs.contains .labels = false) :
    t.labels = s.labels := h.others .labels hb

theorem Touches.store {bs : List Block} {s t : State} (h : Touches bs s t) (hb : bs.contains .store = false) :
    t.store = s.store := h.others .store hb

theorem Touches.trunk {bs : List Block} {s t : State} (h : Touches bs s t) (hb : bs.contains .trunk = false) :
    t.trunk = s.trunk := h.others .trunk hb

theorem Touches.mgmt {bs : List Block} {s t : State} (h : Touches bs s t) (hb : bs.contains .mgmt = false) :
    t.mgmt = s.mgmt := h.others .mgmt hb

theorem Touches.reports {bs : List Block} {s t : State} (h : Touches bs s t) (hb : bs.contains .reports = false) :
    t.reports = s.reports := h.others .reports hb

theorem Touches.pending {bs : List Block} {s t : State} (h : Touches bs s t) (hb : bs.contains .pending = false) :
    t.pending = s.pending := h.others .pending hb

theorem Touches.drop {bs : List Block} {s t : State} (h : Touches bs s t) (hb : bs.contains .drops = false)
    (d : DropId) : t.drop d = s.drop d := by
  simp [State.drop, h.drops hb]

theorem Touches.region {bs : List Block} {s t : State} (h : Touches bs s t) (hb : bs.contains .store = false)
    (r : RegionId) : t.region r = s.region r := State.region_eq_of_store (h.store hb) r

/-! ## The operations of Machine/Ops.lean -/

theorem State.setClock_touches (s : State) (x : Clock) :
    Touches [.clock] s (s.setClock x) := by
  constructor
  intro b hb
  cases b <;> first | rfl | cases hb

theorem State.setHouse_touches (s : State) (x : HouseCadence) :
    Touches [.house] s (s.setHouse x) := by
  constructor
  intro b hb
  cases b <;> first | rfl | cases hb

theorem State.setTrim_touches (s : State) (x : TrimCell) :
    Touches [.trim] s (s.setTrim x) := by
  constructor
  intro b hb
  cases b <;> first | rfl | cases hb

theorem State.setTracker_touches (s : State) (x : Tracker) :
    Touches [.tracker] s (s.setTracker x) := by
  constructor
  intro b hb
  cases b <;> first | rfl | cases hb

theorem State.setPart_touches (s : State) (x : PartRecord) :
    Touches [.part] s (s.setPart x) := by
  constructor
  intro b hb
  cases b <;> first | rfl | cases hb

theorem State.setDrops_touches (s : State) (x : Vector Drop 8) :
    Touches [.drops] s (s.setDrops x) := by
  constructor
  intro b hb
  cases b <;> first | rfl | cases hb

theorem State.setIntake_touches (s : State) (x : Intake) :
    Touches [.intake] s (s.setIntake x) := by
  constructor
  intro b hb
  cases b <;> first | rfl | cases hb

theorem State.setLabels_touches (s : State) (x : LabelUnit) :
    Touches [.labels] s (s.setLabels x) := by
  constructor
  intro b hb
  cases b <;> first | rfl | cases hb

theorem State.setStore_touches (s : State) (x : Store) :
    Touches [.store] s (s.setStore x) := by
  constructor
  intro b hb
  cases b <;> first | rfl | cases hb

theorem State.setTrunk_touches (s : State) (x : Trunk) :
    Touches [.trunk] s (s.setTrunk x) := by
  constructor
  intro b hb
  cases b <;> first | rfl | cases hb

theorem State.setMgmt_touches (s : State) (x : Management) :
    Touches [.mgmt] s (s.setMgmt x) := by
  constructor
  intro b hb
  cases b <;> first | rfl | cases hb

theorem State.setReports_touches (s : State) (x : ReportUnit) :
    Touches [.reports] s (s.setReports x) := by
  constructor
  intro b hb
  cases b <;> first | rfl | cases hb

theorem State.updDrop_touches (s : State) (d : DropId) (f : Drop → Drop) :
    Touches [.drops] s (s.updDrop d f) := s.setDrops_touches _

theorem State.updProfile_touches (s : State) (d : DropId) (f : Profile → Profile) :
    Touches [.drops] s (s.updProfile d f) := s.setDrops_touches _

theorem State.updCadence_touches (s : State) (d : DropId) (f : Cadence → Cadence) :
    Touches [.drops] s (s.updCadence d f) := s.setDrops_touches _

theorem State.updDf_touches (s : State) (d : DropId) (f : DfLine → DfLine) :
    Touches [.drops] s (s.updDf d f) := s.setDrops_touches _

theorem State.updLine_touches (s : State) (d : DropId) (f : Line → Line) :
    Touches [.drops] s (s.updLine d f) := s.setDrops_touches _

theorem State.updTake_touches (s : State) (d : DropId) (f : Take → Take) :
    Touches [.drops] s (s.updTake d f) := s.setDrops_touches _

theorem State.updCounters_touches (s : State) (d : DropId) (f : DropCounters → DropCounters) :
    Touches [.drops] s (s.updCounters d f) := s.setDrops_touches _

theorem State.updAllDrops_touches (s : State) (f : Drop → Drop) :
    Touches [.drops] s (s.updAllDrops f) := s.setDrops_touches _

theorem State.atDivider_touches (s : State) (k : DividerCount) :
    Touches [.clock] s (s.atDivider k) := s.setClock_touches _

theorem State.latch_touches (s : State) (c : Cause) (d : Option DropId) :
    Touches [.reports] s (s.latch c d) := s.setReports_touches _

theorem State.updPort_touches (s : State) (side : Side) (f : Port → Port) :
    Touches [.trunk] s (s.updPort side f) := by
  cases side <;> exact s.setTrunk_touches _

theorem State.updSideCounters_touches (s : State) (side : Side) (f : SideCounters → SideCounters) :
    Touches [.trunk] s (s.updSideCounters side f) := s.updPort_touches side _

theorem State.updRegion_touches (s : State) (r : RegionId) (f : Region → Region) :
    Touches [.store] s (s.updRegion r f) := s.setStore_touches _

theorem State.updAllRegions_touches (s : State) (f : Region → Region) :
    Touches [.store] s (s.updAllRegions f) := s.setStore_touches _

/-! ## Machine/Store.lean -/

theorem State.fillOne_touches (s : State) (d : DropId) :
    Touches [.drops] s (s.fillOne d) := by
  unfold State.fillOne
  try dsimp only
  repeat' with_reducible first
    | exact Touches.refl _ _
    | decide
    | apply Touches.step (State.updLine_touches _ _ _)
    | split

theorem State.fill_touches (s : State) (d : DropId) :
    Touches [.drops] s (s.fill d) := by
  unfold State.fill
  try dsimp only
  repeat' with_reducible first
    | exact Touches.refl _ _
    | decide
    | apply Touches.step (State.fillOne_touches _ _)

theorem State.fillNamed_touches (s : State) (m : DropMask) :
    Touches [.drops] s (s.fillNamed m) := by
  unfold State.fillNamed
  refine Touches.foldl (fun s d => ?_) _ s
  split
  · exact s.fill_touches d
  · exact Touches.refl _ s

theorem State.unqueue_touches (s : State) (serial : Nat) (d : DropId) :
    Touches [.drops] s (s.unqueue serial d) := by
  unfold State.unqueue
  split
  · exact (s.updLine_touches d _).trans (State.fill_touches _ d)
  · exact Touches.refl _ s

theorem State.discardItem_touches (s : State) (serial : Nat) :
    Touches [.drops, .store] s (s.discardItem serial) := by
  unfold State.discardItem
  have step : ∀ (t : State) (d : DropId), Touches [.drops, .store] t (t.unqueue serial d) :=
    fun t d => (t.unqueue_touches serial d).mono (by decide)
  have first := (s.updAllRegions_touches (Region.discard serial)).mono (cs := [.drops, .store]) (by decide)
  exact first.trans (Touches.foldl step allDrops _)

theorem State.discardItems_touches (s : State) (items : List Held) :
    Touches [.drops, .store] s (s.discardItems items) := by
  unfold State.discardItems
  have step : ∀ (t : State) (h : Held), Touches [.drops, .store] t (t.discardItem h.serial) :=
    fun t h => t.discardItem_touches h.serial
  exact Touches.foldl step items s

theorem State.discardStale_touches (s : State) :
    Touches [.drops, .store] s (s.discardStale) := by
  unfold State.discardStale
  try dsimp only
  repeat' with_reducible first
    | exact Touches.refl _ _
    | decide
    | apply Touches.step (State.discardItems_touches _ _)

theorem State.strip_touches (s : State) (f : Held → Held) :
    Touches [.store] s (s.strip f) := by
  unfold State.strip
  try dsimp only
  repeat' with_reducible first
    | exact Touches.refl _ _
    | decide
    | apply Touches.step (State.updAllRegions_touches _ _)

theorem State.leaveSets_touches (s : State) (d : DropId) :
    Touches [.store] s (s.leaveSets d) := by
  unfold State.leaveSets
  try dsimp only
  repeat' with_reducible first
    | exact Touches.refl _ _
    | decide
    | apply Touches.step (State.strip_touches _ _)

theorem State.leaveUnqueuedSets_touches (s : State) (d : DropId) :
    Touches [.store] s (s.leaveUnqueuedSets d) := by
  unfold State.leaveUnqueuedSets
  try dsimp only
  repeat' with_reducible first
    | exact Touches.refl _ _
    | decide
    | apply Touches.step (State.strip_touches _ _)

theorem State.deliveredToDrop_touches (s : State) (serial : Nat) (d : DropId) :
    Touches [.store] s (s.deliveredToDrop serial d) := by
  unfold State.deliveredToDrop
  try dsimp only
  repeat' with_reducible first
    | exact Touches.refl _ _
    | decide
    | apply Touches.step (State.strip_touches _ _)

theorem State.deliveredUp_touches (s : State) (serial : Nat) :
    Touches [.store] s (s.deliveredUp serial) := by
  unfold State.deliveredUp
  try dsimp only
  repeat' with_reducible first
    | exact Touches.refl _ _
    | decide
    | apply Touches.step (State.strip_touches _ _)

theorem State.drawSerial_touches (s : State) :
    Touches [.drops, .store] s (s.drawSerial) := by
  unfold State.drawSerial
  try dsimp only
  repeat' with_reducible first
    | exact Touches.refl _ _
    | decide
    | apply Touches.step (State.setStore_touches _ _)
    | apply Touches.step (State.discardStale_touches _)

theorem State.meetFull_touches (s : State) (r : RegionId) (source : Option DropId) (h : Held) :
    Touches [.drops, .store, .reports] s (s.meetFull r source h) := by
  unfold State.meetFull
  try dsimp only
  repeat' with_reducible first
    | exact Touches.refl _ _
    | decide
    | apply Touches.step (State.latch_touches _ _ _)
    | apply Touches.step (State.updRegion_touches _ _ _)
    | apply Touches.step (State.fillNamed_touches _ _)
    | split

theorem State.countUnassigned_touches (s : State) (source : Option DropId) :
    Touches [.drops, .store] s (s.countUnassigned source) := by
  unfold State.countUnassigned
  try dsimp only
  repeat' with_reducible first
    | exact Touches.refl _ _
    | decide
    | apply Touches.step (State.setStore_touches _ _)
    | apply Touches.step (State.updCounters_touches _ _ _)
    | split

theorem State.admit_touches (s : State) (r : RegionId) (source : Option DropId) (h : Held) :
    Touches [.drops, .store, .reports] s (s.admitItem r source h) := by
  unfold State.admitItem
  try dsimp only
  repeat' with_reducible first
    | exact Touches.refl _ _
    | decide
    | apply Touches.step (State.updRegion_touches _ _ _)
    | apply Touches.step (State.fillNamed_touches _ _)
    | apply Touches.step (State.meetFull_touches _ _ _ _)
    | apply Touches.step (State.countUnassigned_touches _ _)
    | split

theorem State.createItem_touches (s : State) (d : DropId) (item : ItemBody) :
    Touches [.drops, .store, .reports] s (s.createItem d item) := by
  unfold State.createItem
  try dsimp only
  repeat' with_reducible first
    | exact Touches.refl _ _
    | decide
    | apply Touches.step (State.drawSerial_touches _)
    | apply Touches.step (State.admit_touches _ _ _ _)

theorem State.createPassCopy_touches (s : State) (item : ItemBody) (drops : DropMask) :
    Touches [.drops, .store, .reports] s (s.createPassCopy item drops) := by
  unfold State.createPassCopy
  try dsimp only
  repeat' with_reducible first
    | exact Touches.refl _ _
    | decide
    | apply Touches.step (State.drawSerial_touches _)
    | apply Touches.step (State.admit_touches _ _ _ _)

/-! ## Machine/Takes.lean -/

theorem State.announceGuard_touches (s : State) :
    Touches [.tracker] s (s.announceGuard) := by
  unfold State.announceGuard
  try dsimp only
  repeat' with_reducible first
    | exact Touches.refl _ _
    | decide
    | apply Touches.step (State.setTracker_touches _ _)

theorem State.closeTake_touches (s : State) (d : DropId) (reason : CloseReason) :
    Touches [.tracker, .drops] s (s.closeTake d reason) := by
  unfold State.closeTake
  try dsimp only
  repeat' with_reducible first
    | exact Touches.refl _ _
    | decide
    | apply Touches.step (State.updTake_touches _ _ _)
    | apply Touches.step (State.announceGuard_touches _)

theorem State.closeWithCut_touches (s : State) (d : DropId) (reason : CloseReason) (p : Profile) (anchor : Int) :
    Touches [.tracker, .drops, .store, .reports] s (s.closeWithCut d reason p anchor) := by
  unfold State.closeWithCut
  try dsimp only
  repeat' with_reducible first
    | exact Touches.refl _ _
    | decide
    | apply Touches.step (State.createItem_touches _ _ _)
    | apply Touches.step (State.closeTake_touches _ _ _)

/-! ## Machine/Lines.lean -/

theorem State.countMalformed_touches (s : State) (d : DropId) :
    Touches [.drops, .reports] s (s.countMalformed d) := by
  unfold State.countMalformed
  try dsimp only
  repeat' with_reducible first
    | exact Touches.refl _ _
    | decide
    | apply Touches.step (State.updCounters_touches _ _ _)
    | apply Touches.step (State.latch_touches _ _ _)

theorem State.freeIntake_touches (s : State) (d : DropId) :
    Touches [.drops, .intake] s (s.freeIntake d) := by
  unfold State.freeIntake
  try dsimp only
  repeat' with_reducible first
    | exact Touches.refl _ _
    | decide
    | apply Touches.step (State.setIntake_touches _ _)
    | apply Touches.step (State.updCounters_touches _ _ _)
    | split

theorem State.disableDrop_touches (s : State) (d : DropId) :
    Touches [.drops, .intake, .store] s (s.disableDrop d) := by
  unfold State.disableDrop
  try dsimp only
  repeat' with_reducible first
    | exact Touches.refl _ _
    | decide
    | apply Touches.step (State.updDf_touches _ _ _)
    | apply Touches.step (State.updLine_touches _ _ _)
    | apply Touches.step (State.leaveSets_touches _ _)
    | apply Touches.step (State.freeIntake_touches _ _)

theorem State.wake_touches (s : State) (d : DropId) :
    Touches [.drops] s (s.wake d) := by
  unfold State.wake
  try dsimp only
  repeat' with_reducible first
    | exact Touches.refl _ _
    | decide
    | apply Touches.step (State.updLine_touches _ _ _)
    | apply Touches.step (State.fill_touches _ _)

theorem State.goDormant_touches (s : State) (d : DropId) (p : Profile) (anchor : Int) :
    Touches [.tracker, .drops, .store, .reports] s (s.goDormant d p anchor) := by
  unfold State.goDormant
  try dsimp only
  repeat' with_reducible first
    | exact Touches.refl _ _
    | decide
    | apply Touches.step (State.updLine_touches _ _ _)
    | apply Touches.step (State.latch_touches _ _ _)
    | apply Touches.step (State.closeWithCut_touches _ _ _ _ _)
    | split

theorem State.quietCount_touches (s : State) (d : DropId) (p : Profile) (anchor : Int) :
    Touches [.tracker, .drops, .store, .reports] s (s.quietCount d p anchor) := by
  unfold State.quietCount
  try dsimp only
  repeat' with_reducible first
    | exact Touches.refl _ _
    | decide
    | apply Touches.step (State.updLine_touches _ _ _)
    | apply Touches.step (State.goDormant_touches _ _ _ _)
    | split

theorem State.placeFrame_touches (s : State) (d : DropId) (f : Frame) :
    Touches [.drops] s (s.placeFrame d f) := by
  unfold State.placeFrame
  try dsimp only
  repeat' with_reducible first
    | exact Touches.refl _ _
    | decide
    | apply Touches.step (State.updLine_touches _ _ _)
    | split

theorem State.copySent_touches (s : State) (d : DropId) (serial : Nat) :
    Touches [.drops, .store] s (s.copySent d serial) := by
  unfold State.copySent
  try dsimp only
  repeat' with_reducible first
    | exact Touches.refl _ _
    | decide
    | apply Touches.step (State.updLine_touches _ _ _)
    | apply Touches.step (State.fill_touches _ _)
    | apply Touches.step (State.deliveredToDrop_touches _ _ _)

/-! ## Machine/Profiles.lean -/

theorem State.applyDf_touches (s : State) (d : DropId) (old : DfFunction) :
    Touches [.drops] s (s.applyDf d old) := by
  unfold State.applyDf
  try dsimp only
  repeat' with_reducible first
    | exact Touches.refl _ _
    | decide
    | apply Touches.step (State.updDf_touches _ _ _)

theorem State.driveDf_touches (s : State) (d : DropId) (k : DividerCount) : Touches [.drops] s (s.driveDf d k) :=
  s.updDf_touches d _

theorem State.followAgain_touches (s : State) (d : DropId) : Touches [.drops] s (s.followAgain d) := s.updDf_touches d _

theorem State.applyAnchor_touches (s : State) (d : DropId) :
    Touches [.drops] s (s.applyAnchor d) := by
  unfold State.applyAnchor
  try dsimp only
  repeat' with_reducible first
    | exact Touches.refl _ _
    | decide
    | apply Touches.step (State.updCadence_touches _ _ _)

theorem State.adoptProfile_touches (s : State) (d : DropId) (p : Profile) :
    Touches [.tracker, .drops, .store, .reports] s (s.adoptProfile d p) := by
  unfold State.adoptProfile
  try dsimp only
  repeat' with_reducible first
    | exact Touches.refl _ _
    | decide
    | apply Touches.step (State.updProfile_touches _ _ _)
    | apply Touches.step (State.updCadence_touches _ _ _)
    | apply Touches.step (State.closeWithCut_touches _ _ _ _ _)
    | split

theorem State.settleEnabled_touches (s : State) (d : DropId) (old p : Profile) :
    Touches [.drops, .store] s (s.settleEnabled d old p) := by
  unfold State.settleEnabled
  try dsimp only
  repeat' with_reducible first
    | exact Touches.refl _ _
    | decide
    | apply Touches.step (State.updCadence_touches _ _ _)
    | apply Touches.step (State.updLine_touches _ _ _)
    | apply Touches.step (State.fill_touches _ _)
    | apply Touches.step (State.leaveUnqueuedSets_touches _ _)
    | apply Touches.step (State.applyDf_touches _ _ _)
    | split

theorem State.settleDisabled_touches (s : State) (d : DropId) :
    Touches [.drops, .intake, .store] s (s.settleDisabled d) := by
  unfold State.settleDisabled
  try dsimp only
  repeat' with_reducible first
    | exact Touches.refl _ _
    | decide
    | apply Touches.step (State.updCadence_touches _ _ _)
    | apply Touches.step (State.disableDrop_touches _ _)

theorem State.applyProfile_touches (s : State) (d : DropId) (p : Profile) :
    Touches [.tracker, .drops, .intake, .store, .reports] s (s.applyProfile d p) := by
  unfold State.applyProfile
  try dsimp only
  repeat' with_reducible first
    | exact Touches.refl _ _
    | decide
    | apply Touches.step (State.adoptProfile_touches _ _ _)
    | apply Touches.step (State.settleEnabled_touches _ _ _ _)
    | apply Touches.step (State.settleDisabled_touches _ _)
    | split

theorem State.loadDisabled_touches (s : State) (d : DropId) (p : Profile) :
    Touches [.drops] s (s.loadDisabled d p) := by
  unfold State.loadDisabled
  try dsimp only
  repeat' with_reducible first
    | exact Touches.refl _ _
    | decide
    | apply Touches.step (State.updProfile_touches _ _ _)
    | apply Touches.step (State.updCadence_touches _ _ _)
    | apply Touches.step (State.updDf_touches _ _ _)
    | apply Touches.step (State.updLine_touches _ _ _)
    | apply Touches.step (State.fill_touches _ _)
    | split

theorem State.finishBoundary_touches (s : State) (d : DropId) (n t boundary : Nat) (wasWaiting : Bool) (p : Profile) (anchor : Int) :
    Touches [.tracker, .drops, .store, .reports] s (s.finishBoundary d n t boundary wasWaiting p anchor) := by
  unfold State.finishBoundary
  exact ((((s.placeFrame_touches d _).trans (State.updDf_touches _ d _)).mono (by decide)).trans
    (State.quietCount_touches _ d p anchor)).trans ((State.updCadence_touches _ d _).mono (by decide))

theorem State.finishFromHouseTime_touches (s : State) (d : DropId) (wasWaiting : Bool) (p : Profile) (anchor : Int) :
    Touches [.tracker, .drops, .store, .reports] s (s.finishFromHouseTime d wasWaiting p anchor) := by
  unfold State.finishFromHouseTime
  try dsimp only
  repeat' with_reducible first
    | exact Touches.refl _ _
    | decide
    | apply Touches.step (State.finishBoundary_touches _ _ _ _ _ _ _ _)

theorem State.boundaryEvent_touches (s : State) (d : DropId) :
    Touches [.tracker, .drops, .intake, .store, .reports] s (s.boundaryEvent d) := by
  unfold State.boundaryEvent
  try dsimp only
  repeat' with_reducible first
    | exact Touches.refl _ _
    | decide
    | apply Touches.step (State.updCadence_touches _ _ _)
    | apply Touches.step (State.driveDf_touches _ _ _)
    | apply Touches.step (State.followAgain_touches _ _)
    | apply Touches.step (State.applyAnchor_touches _ _)
    | apply Touches.step (State.applyProfile_touches _ _ _)
    | apply Touches.step (State.finishBoundary_touches _ _ _ _ _ _ _ _)
    | apply Touches.step (State.finishFromHouseTime_touches _ _ _ _ _)
    | split

/-! ## Machine/Tracker.lean -/

theorem State.setCorrection_touches (s : State) (c : Int) :
    Touches [.clock] s (s.setCorrection c) := by
  unfold State.setCorrection
  try dsimp only
  repeat' with_reducible first
    | exact Touches.refl _ _
    | decide
    | apply Touches.step (State.setClock_touches _ _)

theorem State.loopUpdate_touches (s : State) (e : Int) :
    Touches [.clock, .tracker] s (s.loopUpdate e) := by
  unfold State.loopUpdate
  try dsimp only
  repeat' with_reducible first
    | exact Touches.refl _ _
    | decide
    | apply Touches.step (State.setTracker_touches _ _)
    | apply Touches.step (State.setCorrection_touches _ _)

theorem State.enterState_touches (s : State) (t : TrackerState) :
    Touches [.tracker] s (s.enterState t) := by
  unfold State.enterState
  try dsimp only
  repeat' with_reducible first
    | exact Touches.refl _ _
    | decide
    | apply Touches.step (State.setTracker_touches _ _)

theorem State.latchLockLost_touches (s : State) (old : TrackerState) :
    Touches [.reports] s (s.latchLockLost old) := by
  unfold State.latchLockLost
  try dsimp only
  repeat' with_reducible first
    | exact Touches.refl _ _
    | decide
    | apply Touches.step (State.latch_touches _ _ _)
    | split

theorem State.jamClock_touches (s : State) (e : Int) :
    Touches [.clock, .house] s (s.jamClock e) := by
  unfold State.jamClock
  try dsimp only
  repeat' with_reducible first
    | exact Touches.refl _ _
    | decide
    | apply Touches.step (State.setClock_touches _ _)
    | apply Touches.step (State.setHouse_touches _ _)

theorem State.jam_touches (s : State) (e : Int) :
    Touches [.clock, .house, .tracker, .drops, .reports] s (s.jam e) := by
  unfold State.jam
  try dsimp only
  repeat' with_reducible first
    | exact Touches.refl _ _
    | decide
    | apply Touches.step (State.setTracker_touches _ _)
    | apply Touches.step (State.updAllDrops_touches _ _)
    | apply Touches.step (State.latch_touches _ _ _)
    | apply Touches.step (State.latchLockLost_touches _ _)
    | apply Touches.step (State.jamClock_touches _ _)

theorem State.slewBy_touches (s : State) (e : Int) :
    Touches [.clock] s (s.slewBy e) := by
  unfold State.slewBy
  try dsimp only
  repeat' with_reducible first
    | exact Touches.refl _ _
    | decide
    | apply Touches.step (State.setCorrection_touches _ _)

theorem State.stepDecision_touches (s : State) (e : Int) :
    Touches [.clock, .house, .tracker, .drops, .reports] s (s.stepDecision e) := by
  unfold State.stepDecision
  try dsimp only
  repeat' with_reducible first
    | exact Touches.refl _ _
    | decide
    | apply Touches.step (State.latch_touches _ _ _)
    | apply Touches.step (State.enterState_touches _ _)
    | apply Touches.step (State.latchLockLost_touches _ _)
    | apply Touches.step (State.jam_touches _ _)
    | apply Touches.step (State.slewBy_touches _ _)
    | split

theorem State.loopToTrack_touches (s : State) (e : Int) :
    Touches [.clock, .tracker, .reports] s (s.loopToTrack e) := by
  unfold State.loopToTrack
  try dsimp only
  repeat' with_reducible first
    | exact Touches.refl _ _
    | decide
    | apply Touches.step (State.loopUpdate_touches _ _)
    | apply Touches.step (State.enterState_touches _ _)
    | apply Touches.step (State.latchLockLost_touches _ _)

theorem State.jamFrom_touches (s : State) (e : Int) :
    Touches [.clock, .house, .tracker, .drops, .reports] s (s.jamFrom e) := by
  unfold State.jamFrom
  try dsimp only
  repeat' with_reducible first
    | exact Touches.refl _ _
    | decide
    | apply Touches.step (State.setCorrection_touches _ _)
    | apply Touches.step (State.jam_touches _ _)
    | split

theorem State.arriveTrack_touches (s : State) (e : Int) :
    Touches [.clock, .house, .tracker, .drops, .reports] s (s.arriveTrack e) := by
  unfold State.arriveTrack
  try dsimp only
  repeat' with_reducible first
    | exact Touches.refl _ _
    | decide
    | apply Touches.step (State.setTracker_touches _ _)
    | apply Touches.step (State.latch_touches _ _ _)
    | apply Touches.step (State.loopUpdate_touches _ _)
    | apply Touches.step (State.stepDecision_touches _ _)
    | apply Touches.step (State.loopToTrack_touches _ _)
    | split

theorem State.arriveLocked_touches (s : State) (e : Int) :
    Touches [.clock, .house, .tracker, .drops, .reports] s (s.arriveLocked e) := by
  unfold State.arriveLocked
  try dsimp only
  repeat' with_reducible first
    | exact Touches.refl _ _
    | decide
    | apply Touches.step (State.setTracker_touches _ _)
    | apply Touches.step (State.loopUpdate_touches _ _)
    | apply Touches.step (State.stepDecision_touches _ _)
    | apply Touches.step (State.loopToTrack_touches _ _)
    | split

theorem State.arriveSlew_touches (s : State) (e : Int) :
    Touches [.clock, .house, .tracker, .drops, .reports] s (s.arriveSlew e) := by
  unfold State.arriveSlew
  try dsimp only
  repeat' with_reducible first
    | exact Touches.refl _ _
    | decide
    | apply Touches.step (State.slewBy_touches _ _)
    | apply Touches.step (State.loopToTrack_touches _ _)
    | apply Touches.step (State.jamFrom_touches _ _)
    | split

theorem State.arriveFreewheel_touches (s : State) (e : Int) :
    Touches [.clock, .house, .tracker, .drops, .reports] s (s.arriveFreewheel e) := by
  unfold State.arriveFreewheel
  try dsimp only
  repeat' with_reducible first
    | exact Touches.refl _ _
    | decide
    | apply Touches.step (State.stepDecision_touches _ _)
    | apply Touches.step (State.loopToTrack_touches _ _)
    | split

theorem State.arriveByState_touches (s : State) (e : Int) :
    Touches [.clock, .house, .tracker, .drops, .reports] s (s.arriveByState e) := by
  unfold State.arriveByState
  try dsimp only
  repeat' with_reducible first
    | exact Touches.refl _ _
    | decide
    | apply Touches.step (State.jam_touches _ _)
    | apply Touches.step (State.jamFrom_touches _ _)
    | apply Touches.step (State.arriveTrack_touches _ _)
    | apply Touches.step (State.arriveLocked_touches _ _)
    | apply Touches.step (State.arriveSlew_touches _ _)
    | apply Touches.step (State.arriveFreewheel_touches _ _)
    | split

theorem State.discipline_touches (s : State) (e : Int) :
    Touches [.clock, .house, .tracker, .drops, .reports] s (s.discipline e) := by
  unfold State.discipline
  try dsimp only
  repeat' with_reducible first
    | exact Touches.refl _ _
    | decide
    | apply Touches.step (State.setTracker_touches _ _)
    | apply Touches.step (State.arriveByState_touches _ _)

theorem State.handRate_touches (s : State) (code : Nat) :
    Touches [.house] s (s.handRate code) := by
  unfold State.handRate
  try dsimp only
  repeat' with_reducible first
    | exact Touches.refl _ _
    | decide
    | apply Touches.step (State.setHouse_touches _ _)
    | split

theorem State.handQuality_touches (s : State) (q : Quality) :
    Touches [.tracker, .reports] s (s.handQuality q) := by
  unfold State.handQuality
  try dsimp only
  repeat' with_reducible first
    | exact Touches.refl _ _
    | decide
    | apply Touches.step (State.setTracker_touches _ _)
    | apply Touches.step (State.latch_touches _ _ _)
    | split

theorem State.enterFreewheel_touches (s : State) :
    Touches [.clock, .tracker] s (s.enterFreewheel) := by
  unfold State.enterFreewheel
  try dsimp only
  repeat' with_reducible first
    | exact Touches.refl _ _
    | decide
    | apply Touches.step (State.setTracker_touches _ _)
    | apply Touches.step (State.setCorrection_touches _ _)

theorem State.missingTimeExpiry_touches (s : State) :
    Touches [.clock, .tracker, .reports] s (s.missingTimeExpiry) := by
  unfold State.missingTimeExpiry
  try dsimp only
  repeat' with_reducible first
    | exact Touches.refl _ _
    | decide
    | apply Touches.step (State.latch_touches _ _ _)
    | apply Touches.step (State.latchLockLost_touches _ _)
    | apply Touches.step (State.enterFreewheel_touches _)
    | split

theorem State.handOverTime_touches (s : State) (words : List Word) :
    Touches [.clock, .house, .tracker, .reports] s (s.handOverTime words) := by
  unfold State.handOverTime
  try dsimp only
  repeat' with_reducible first
    | exact Touches.refl _ _
    | decide
    | apply Touches.step (State.setClock_touches _ _)
    | apply Touches.step (State.handRate_touches _ _)
    | apply Touches.step (State.handQuality_touches _ _)

theorem State.timeArrival_touches (s : State) (words : List Word) (captured : Nat) :
    Touches [.clock, .house, .tracker, .drops, .reports] s (s.timeArrival words captured) := by
  unfold State.timeArrival
  try dsimp only
  repeat' with_reducible first
    | exact Touches.refl _ _
    | decide
    | apply Touches.step (State.handOverTime_touches _ _)
    | apply Touches.step (State.missingTimeExpiry_touches _)
    | apply Touches.step (State.discipline_touches _ _)
    | split

/-! ## Machine/HouseTime.lean -/

theorem State.countMissingTime_touches (s : State) :
    Touches [.tracker] s (s.countMissingTime) := by
  unfold State.countMissingTime
  try dsimp only
  repeat' with_reducible first
    | exact Touches.refl _ _
    | decide
    | apply Touches.step (State.setTracker_touches _ _)
    | split

theorem State.epoch_touches (s : State) :
    Touches [.clock, .tracker, .drops] s (s.epoch) := by
  unfold State.epoch
  try dsimp only
  repeat' with_reducible first
    | exact Touches.refl _ _
    | decide
    | apply Touches.step (State.setClock_touches _ _)
    | apply Touches.step (State.updAllDrops_touches _ _)
    | apply Touches.step (State.countMissingTime_touches _)

theorem State.countHoldoff_touches (s : State) :
    Touches [.reports] s (s.countHoldoff) := by
  unfold State.countHoldoff
  try dsimp only
  repeat' with_reducible first
    | exact Touches.refl _ _
    | decide
    | apply Touches.step (State.setReports_touches _ _)
    | split

theorem State.fillTimeSlot_touches (s : State) :
    Touches [.trunk] s (s.fillTimeSlot) := by
  unfold State.fillTimeSlot
  try dsimp only
  repeat' with_reducible first
    | exact Touches.refl _ _
    | decide
    | apply Touches.step (State.setTrunk_touches _ _)

theorem State.houseBoundary_touches (s : State) :
    Touches [.house, .trunk, .reports] s (s.houseBoundary) := by
  unfold State.houseBoundary
  try dsimp only
  repeat' with_reducible first
    | exact Touches.refl _ _
    | decide
    | apply Touches.step (State.setHouse_touches _ _)
    | apply Touches.step (State.countHoldoff_touches _)
    | apply Touches.step (State.fillTimeSlot_touches _)

/-! ## Machine/Intake.lean -/

theorem State.intakeTake_touches (s : State) :
    Touches [.drops, .intake] s (s.intakeTake) := by
  unfold State.intakeTake
  try dsimp only
  repeat' with_reducible first
    | exact Touches.refl _ _
    | decide
    | apply Touches.step (State.setIntake_touches _ _)
    | apply Touches.step (State.updLine_touches _ _ _)
    | split

theorem State.buildSync_touches (s : State) (d : DropId) (j : Judged) (ds : List DropId) :
    Touches [.drops, .store, .reports] s (s.buildSync d j ds) := by
  unfold State.buildSync
  split
  · exact (s.latch_touches _ _).mono (by decide)
  · refine Touches.trans ?_ (State.createItem_touches _ d _)
    exact ((s.setStore_touches _).mono (by decide)).trans
      (Touches.foldl (fun s x => (s.updTake_touches x _).mono (by decide)) _ _)

theorem State.completeRoll_touches (s : State) (d : DropId) (c : Converted) :
    Touches [.tracker, .drops, .store, .reports] s (s.completeRoll d c) := by
  unfold State.completeRoll
  try dsimp only
  repeat' with_reducible first
    | exact Touches.refl _ _
    | decide
    | apply Touches.step (State.updTake_touches _ _ _)
    | apply Touches.step (State.createItem_touches _ _ _)
    | apply Touches.step (State.announceGuard_touches _)
    | split

theorem State.completeCut_touches (s : State) (d : DropId) (c : Converted) :
    Touches [.tracker, .drops, .store, .reports] s (s.completeCut d c) := by
  unfold State.completeCut
  try dsimp only
  repeat' with_reducible first
    | exact Touches.refl _ _
    | decide
    | apply Touches.step (State.createItem_touches _ _ _)
    | apply Touches.step (State.closeTake_touches _ _ _)
    | split

theorem State.completeClap_touches (s : State) (d : DropId) (c : Converted) :
    Touches [.drops, .store, .reports] s (s.completeClap d c) := by
  unfold State.completeClap
  try dsimp only
  repeat' with_reducible first
    | exact Touches.refl _ _
    | decide
    | apply Touches.step (State.createItem_touches _ _ _)
    | apply Touches.step (State.buildSync_touches _ _ _ _)

theorem State.completeKind_touches (s : State) (d : DropId) (c : Converted) :
    Touches [.tracker, .drops, .labels, .store, .reports] s (s.completeKind d c) := by
  unfold State.completeKind
  try dsimp only
  repeat' with_reducible first
    | exact Touches.refl _ _
    | decide
    | apply Touches.step (State.setLabels_touches _ _)
    | apply Touches.step (State.createItem_touches _ _ _)
    | apply Touches.step (State.completeRoll_touches _ _ _)
    | apply Touches.step (State.completeCut_touches _ _ _)
    | apply Touches.step (State.completeClap_touches _ _ _)
    | split

theorem State.completeStamp_touches (s : State) (d : DropId) (r : Received) :
    Touches [.tracker, .drops, .labels, .store, .reports] s (s.completeStamp d r) := by
  unfold State.completeStamp
  try dsimp only
  repeat' with_reducible first
    | exact Touches.refl _ _
    | decide
    | apply Touches.step (State.updCounters_touches _ _ _)
    | apply Touches.step (State.countMalformed_touches _ _)
    | apply Touches.step (State.completeKind_touches _ _ _)
    | split

theorem State.intakeComplete_touches (s : State) :
    Touches [.tracker, .drops, .intake, .labels, .store, .reports] s (s.intakeComplete) := by
  unfold State.intakeComplete
  try dsimp only
  repeat' with_reducible first
    | exact Touches.refl _ _
    | decide
    | apply Touches.step (State.setIntake_touches _ _)
    | apply Touches.step (State.completeStamp_touches _ _ _)
    | split

/-! ## Machine/Trunk.lean -/

theorem State.setReceiver_touches (s : State) (side : Side) (c : Receiver) :
    Touches [.trunk] s (s.setReceiver side c) := by
  unfold State.setReceiver
  try dsimp only
  repeat' with_reducible first
    | exact Touches.refl _ _
    | decide
    | apply Touches.step (State.updPort_touches _ _ _)

theorem State.misdirected_touches (s : State) (side : Side) :
    Touches [.trunk] s (s.misdirected side) := by
  unfold State.misdirected
  try dsimp only
  repeat' with_reducible first
    | exact Touches.refl _ _
    | decide
    | apply Touches.step (State.updSideCounters_touches _ _ _)

theorem State.countTransmitted_touches (s : State) (side : Side) :
    Touches [.trunk] s (s.countTransmitted side) := by
  unfold State.countTransmitted
  try dsimp only
  repeat' with_reducible first
    | exact Touches.refl _ _
    | decide
    | apply Touches.step (State.updSideCounters_touches _ _ _)

theorem State.startItem_touches (s : State) :
    Touches [.trunk] s (s.startItem) := by
  unfold State.startItem
  try dsimp only
  repeat' with_reducible first
    | exact Touches.refl _ _
    | decide
    | apply Touches.step (State.setTrunk_touches _ _)
    | split

theorem State.enterUp_touches (s : State) (words : List Word) :
    Touches [.trunk, .reports] s (s.enterUp words) := by
  unfold State.enterUp
  try dsimp only
  repeat' with_reducible first
    | exact Touches.refl _ _
    | decide
    | apply Touches.step (State.setTrunk_touches _ _)
    | apply Touches.step (State.latch_touches _ _ _)
    | split

theorem State.enterDown_touches (s : State) (words : List Word) :
    Touches [.trunk, .reports] s (s.enterDown words) := by
  unfold State.enterDown
  try dsimp only
  repeat' with_reducible first
    | exact Touches.refl _ _
    | decide
    | apply Touches.step (State.setTrunk_touches _ _)
    | apply Touches.step (State.latch_touches _ _ _)
    | split

theorem State.enterFifo_touches (s : State) (side : Side) (words : List Word) :
    Touches [.trunk, .reports] s (s.enterFifo side words) := by
  unfold State.enterFifo
  try dsimp only
  repeat' with_reducible first
    | exact Touches.refl _ _
    | decide
    | apply Touches.step (State.enterUp_touches _ _)
    | apply Touches.step (State.enterDown_touches _ _)
    | split

theorem State.queueRequest_touches (s : State) (side : Side) (words : List Word) :
    Touches [.mgmt] s (s.queueRequest side words) := by
  unfold State.queueRequest
  try dsimp only
  repeat' with_reducible first
    | exact Touches.refl _ _
    | decide
    | apply Touches.step (State.setMgmt_touches _ _)
    | split

theorem State.mgmtArrival_touches (s : State) (side : Side) (words : List Word) :
    Touches [.trunk, .mgmt, .reports] s (s.mgmtArrival side words) := by
  unfold State.mgmtArrival
  try dsimp only
  repeat' with_reducible first
    | exact Touches.refl _ _
    | decide
    | apply Touches.step (State.enterDown_touches _ _)
    | apply Touches.step (State.enterFifo_touches _ _ _)
    | apply Touches.step (State.queueRequest_touches _ _ _)
    | split

theorem State.foreignArrival_touches (s : State) (words : List Word) (k : RouteKind) (item : Option ItemBody) :
    Touches [.drops, .store, .trunk, .reports] s (s.foreignArrival words k item) := by
  unfold State.foreignArrival
  try dsimp only
  repeat' with_reducible first
    | exact Touches.refl _ _
    | decide
    | apply Touches.step (State.updSideCounters_touches _ _ _)
    | apply Touches.step (State.createPassCopy_touches _ _ _)
    | apply Touches.step (State.enterUp_touches _ _)
    | split

theorem State.timePacketOnA_touches (s : State) (words : List Word) (captured : Nat) :
    Touches [.clock, .house, .tracker, .drops, .trunk, .reports] s (s.timePacketOnA words captured) := by
  unfold State.timePacketOnA
  try dsimp only
  repeat' with_reducible first
    | exact Touches.refl _ _
    | decide
    | apply Touches.step (State.updSideCounters_touches _ _ _)
    | apply Touches.step (State.timeArrival_touches _ _ _)
    | split

theorem State.classify_touches (s : State) (side : Side) (words : List Word) (captured : Nat) :
    Touches [.clock, .house, .tracker, .drops, .store, .trunk, .mgmt, .reports] s (s.classify side words captured) := by
  unfold State.classify
  try dsimp only
  repeat' with_reducible first
    | exact Touches.refl _ _
    | decide
    | apply Touches.step (State.misdirected_touches _ _)
    | apply Touches.step (State.enterUp_touches _ _)
    | apply Touches.step (State.enterDown_touches _ _)
    | apply Touches.step (State.mgmtArrival_touches _ _ _)
    | apply Touches.step (State.foreignArrival_touches _ _ _ _)
    | apply Touches.step (State.timePacketOnA_touches _ _ _)
    | split

theorem State.judgePacket_touches (s : State) (side : Side) (words : List Word) :
    Touches [.clock, .house, .tracker, .drops, .store, .trunk, .mgmt, .reports] s (s.judgePacket side words) := by
  unfold State.judgePacket
  try dsimp only
  repeat' with_reducible first
    | exact Touches.refl _ _
    | decide
    | apply Touches.step (State.latch_touches _ _ _)
    | apply Touches.step (State.updSideCounters_touches _ _ _)
    | apply Touches.step (State.setReceiver_touches _ _ _)
    | apply Touches.step (State.classify_touches _ _ _ _)
    | split

theorem State.startOnA_touches (s : State) :
    Touches [.trunk] s (s.startOnA) := by
  unfold State.startOnA
  try dsimp only
  repeat' with_reducible first
    | exact Touches.refl _ _
    | decide
    | apply Touches.step (State.setTrunk_touches _ _)
    | apply Touches.step (State.startItem_touches _)
    | split

theorem State.sideATransmitted_touches (s : State) :
    Touches [.store, .trunk] s (s.sideATransmitted) := by
  unfold State.sideATransmitted
  try dsimp only
  repeat' with_reducible first
    | exact Touches.refl _ _
    | decide
    | apply Touches.step (State.setTrunk_touches _ _)
    | apply Touches.step (State.deliveredUp_touches _ _)
    | apply Touches.step (State.countTransmitted_touches _ _)
    | split

theorem State.startOnB_touches (s : State) (k : DividerCount) :
    Touches [.trunk] s (s.startOnB k) := by
  unfold State.startOnB
  try dsimp only
  repeat' with_reducible first
    | exact Touches.refl _ _
    | decide
    | apply Touches.step (State.setTrunk_touches _ _)
    | split

/-! ## Machine/Resets.lean -/

theorem State.settleState_touches (s : State) (d : DropId) :
    Touches [.drops] s (s.settleState d) := by
  unfold State.settleState
  try dsimp only
  repeat' with_reducible first
    | exact Touches.refl _ _
    | decide
    | apply Touches.step (State.updDrop_touches _ _ _)

theorem State.applyAtTrunkReset_touches (s : State) (d : DropId) :
    Touches [.tracker, .drops, .intake, .store, .reports] s (s.applyAtTrunkReset d) := by
  unfold State.applyAtTrunkReset
  try dsimp only
  repeat' with_reducible first
    | exact Touches.refl _ _
    | decide
    | apply Touches.step (State.driveDf_touches _ _ _)
    | apply Touches.step (State.applyAnchor_touches _ _)
    | apply Touches.step (State.applyProfile_touches _ _ _)
    | apply Touches.step (State.settleState_touches _ _)
    | split

theorem State.emptyDrop_touches (s : State) (d : DropId) :
    Touches [.drops, .intake, .store] s (s.emptyDrop d) := by
  unfold State.emptyDrop
  try dsimp only
  repeat' with_reducible first
    | exact Touches.refl _ _
    | decide
    | apply Touches.step (State.updDrop_touches _ _ _)
    | apply Touches.step (State.discardItems_touches _ _)
    | apply Touches.step (State.leaveSets_touches _ _)
    | apply Touches.step (State.freeIntake_touches _ _)

theorem State.closeAtDropReset_touches (s : State) (d : DropId) :
    Touches [.tracker, .drops, .store, .reports] s (s.closeAtDropReset d) := by
  unfold State.closeAtDropReset
  try dsimp only
  repeat' with_reducible first
    | exact Touches.refl _ _
    | decide
    | apply Touches.step (State.closeWithCut_touches _ _ _ _ _)
    | split

theorem State.applyAtDropReset_touches (s : State) (d : DropId) :
    Touches [.tracker, .drops, .intake, .store, .reports] s (s.applyAtDropReset d) := by
  unfold State.applyAtDropReset
  try dsimp only
  repeat' with_reducible first
    | exact Touches.refl _ _
    | decide
    | apply Touches.step (State.updCadence_touches _ _ _)
    | apply Touches.step (State.applyProfile_touches _ _ _)
    | split

theorem State.dropReset_touches (s : State) (d : DropId) :
    Touches [.tracker, .drops, .intake, .store, .reports] s (s.dropReset d) := by
  unfold State.dropReset
  try dsimp only
  repeat' with_reducible first
    | exact Touches.refl _ _
    | decide
    | apply Touches.step (State.settleState_touches _ _)
    | apply Touches.step (State.emptyDrop_touches _ _)
    | apply Touches.step (State.closeAtDropReset_touches _ _)
    | apply Touches.step (State.applyAtDropReset_touches _ _)

/-! ## Machine/Management.lean -/

theorem State.enterReply_touches (s : State) (r : Reply) :
    Touches [.trunk] s (s.enterReply r) := by
  unfold State.enterReply
  try dsimp only
  repeat' with_reducible first
    | exact Touches.refl _ _
    | decide
    | apply Touches.step (State.updPort_touches _ _ _)

theorem State.handOver_touches (s : State) (r : Reply) :
    Touches [.trunk, .mgmt] s (s.handOver r) := by
  unfold State.handOver
  try dsimp only
  repeat' with_reducible first
    | exact Touches.refl _ _
    | decide
    | apply Touches.step (State.setMgmt_touches _ _)
    | apply Touches.step (State.enterReply_touches _ _)
    | split

theorem State.trimReplyEntry_touches (s : State) (side : Side) :
    Touches [.trunk, .mgmt] s (s.trimReplyEntry side) := by
  unfold State.trimReplyEntry
  try dsimp only
  repeat' with_reducible first
    | exact Touches.refl _ _
    | decide
    | apply Touches.step (State.setMgmt_touches _ _)
    | apply Touches.step (State.enterReply_touches _ _)
    | split

theorem State.heldReplyEntry_touches (s : State) :
    Touches [.trunk, .mgmt] s (s.heldReplyEntry) := by
  unfold State.heldReplyEntry
  try dsimp only
  repeat' with_reducible first
    | exact Touches.refl _ _
    | decide
    | apply Touches.step (State.setMgmt_touches _ _)
    | apply Touches.step (State.enterReply_touches _ _)
    | split

theorem State.trimReply_touches (s : State) (r : Reply) :
    Touches [.trunk, .mgmt] s (s.trimReply r) := by
  unfold State.trimReply
  try dsimp only
  repeat' with_reducible first
    | exact Touches.refl _ _
    | decide
    | apply Touches.step (State.setMgmt_touches _ _)
    | apply Touches.step (State.enterReply_touches _ _)
    | split

theorem State.holdTracker_touches (s : State) :
    Touches [.clock, .tracker, .reports] s (s.holdTracker) := by
  unfold State.holdTracker
  try dsimp only
  repeat' with_reducible first
    | exact Touches.refl _ _
    | decide
    | apply Touches.step (State.setTracker_touches _ _)
    | apply Touches.step (State.latchLockLost_touches _ _)
    | apply Touches.step (State.enterFreewheel_touches _)
    | split

end Sys2Proof.Machine
end

