-- ==== Sys2Proof/WellFormed.lean ====
section
/-! DEFINITION. Which commands are well formed: those whose operands the event of the row can bring. A word
list is well formed when it is as long as its own header says (R146, R85), and the header of a malformed drop
packet is one that R85 does not accept. Every other operand is well formed by its type. -/

namespace Sys2Proof

/-- The command's operands are such as its event can bring. -/
def Instr.wellFormed : Instr → Bool
  | .trunkPacketComplete _ words => Machine.trunkComplete words
  | .stampPacketComplete _ words => Machine.dropComplete words
  | .dropHeaderMalformed _ kind len => !Machine.dropHeaderOk kind len
  | .powerOn | .powerOnResetEnd _ | .epoch | .houseBoundaryEvent | .missingTimeExpiry
  | .dropBoundaryEvent _ | .pulseEnd _ | .trunkLostSignal _ | .trunkResyncEnd _ | .sideATransmitStart
  | .sideATransmitComplete | .sideBTransmitStart _ | .sideBTransmitComplete | .heldReplyEntry
  | .trimReplyEntry _ | .dropResyncEnd _ | .dropReceiveStall _ | .dropActivity _ _ | .lineArbiterStart _
  | .dropTransmitComplete _ | .dropTransmitStall _ | .intakeTake | .intakeComplete | .itemStale
  | .reportEmission | .holdoffExpiry | .trimWriteComplete | .loadPart | .loadProfile | .loadRegion
  | .loadRoute | .loadUserBits | .readPart | .readProfile | .readRegion | .readRoute | .readUserBits
  | .readTrackerStatus | .readDropStatus | .readStoreStatus | .readTrunkStatus | .readIdent
  | .unknownRequest | .reopen | .trunkReset | .dropReset | .anchor | .forceJam | .hold | .resume
  | .storeTrim | .trunkStartBit _ _ | .wordClockEdge _ _ => true

end Sys2Proof
end

