-- ==== Sys2Proof/Tests/Slice0.lean ====
section
/-! SUPPORT. Tests of single steps, with expected results from the manual's worked examples or worked by hand from its
rules, and for every statement with hypotheses a state and operands that meet them. -/

namespace Sys2Proof.Tests

/- One test after another: a thread for each of the kernel evaluations below would take more memory than a check has. -/
set_option Elab.async false

open Sys2Proof Sys2Proof.Machine

/-! ## States to test on -/

/-- A profile in force at an enabled drop, otherwise as at power-on. -/
def profileOf (r : Role) : Profile := { Profile.atPowerOn with enabled := true, role := r }

/-- An ACTIVE drop of a role. -/
def activeDrop (r : Role) : Drop :=
  { Drop.atPowerOn with profile := profileOf r, line := { Line.atPowerOn with state := .active } }

/-- The part after reset with drop 0 as given. -/
def withDrop (x : Drop) : State := State.reset.updDrop 0 (fun _ => x)

/-- A held item that a drop's CLAP made, under a serial. -/
def heldClap (serial : Nat) (up : Bool) (drops : DropMask) : Held :=
  { serial := serial, up := up, drops := drops,
    item := .stamp { kind := .clap, sourceDrop := 0, time := 5, frame := 6, subframe := 7, flags := StampFlags.clear,
                     takeNumber := none } }

/-- A state whose pass region holds the items given. -/
def holding (s : State) (items : List Held) : State := s.updRegion passRegion (fun r => { r with items := items })

/-- The part after reset with side A or B receiving a packet whose start bit came at a house time. -/
def receivingAt (s : State) (side : Side) (captured : Nat) : State :=
  s.updPort side (fun p => { p with receiver := { condition := .receiving, capture := captured } })

/-- A TIME packet of house rate code 1. -/
def timeWords (sent : Nat) (quality hop : Nat) : List Word :=
  trunkPacket 0 63 .time hop 0 (natToWords 4 sent ++ [wordOf (4096 + quality * 1024)])

/-- A MGMT packet: request type, table or control, index or argument, record. -/
def mgmtWords (dest typeCode code argument : Nat) (record : List Word) : List Word :=
  trunkPacket dest 63 .mgmt 0 9 (wordOf (typeCode * 4096 + code * 16) :: wordOf argument :: record)

def requestOf (typeCode code argument : Nat) (record : List Word) : Request :=
  { side := .a, words := mgmtWords 5 typeCode code argument record }

/-- A state whose management queue holds one request. -/
def asking (s : State) (typeCode code argument : Nat) (record : List Word) : State :=
  s.setMgmt { s.mgmt with queue := [requestOf typeCode code argument record] }

/-- A STAMP packet of a device in FRAME form. -/
def stampWords (kind subframe frame : Nat) (take : Option Nat) : List Word :=
  dropPacket stampCode
    ([wordOf (kind * 4096 + (if take.isSome then 512 else 0) + subframe)] ++ natToWords 3 frame
      ++ (match take with
        | some n => [wordOf n]
        | none => []))

/-- A state whose intake has a packet of drop 0 in process, arrived at the current house time. -/
def inIntake (s : State) (words : List Word) : State :=
  s.setIntake { s.intake with
    inProcess := some
      { source := 0, packet := { words := words, time := s.clock.time, stepCount := s.clock.stepCount } } }

/-- The state after a command; the state itself where it stops (no command does). -/
def after (c : Instr) (s : State) : State :=
  match exec c s with
  | .next t => t
  | _ => s

/-! ## Well-formed commands -/

theorem test_wellFormed_trunk_packet : (Instr.trunkPacketComplete .a (timeWords 7 0 0)).wellFormed = true := by decide +kernel
theorem test_wellFormed_refuses_short_trunk_packet :
    (Instr.trunkPacketComplete .a [0xFC01#16, 0x0500#16, 0#16]).wellFormed = false := by decide +kernel
theorem test_wellFormed_stamp_packet : (Instr.stampPacketComplete 0 (stampWords 1 0 5 none)).wellFormed = true := by decide +kernel
theorem test_wellFormed_refuses_stamp_of_length_three :
    (Instr.stampPacketComplete 0 [2#16, 3#16, 0#16, 0#16, 0#16, 0#16]).wellFormed = false := by decide +kernel
theorem test_wellFormed_header_malformed : (Instr.dropHeaderMalformed 0 1#16 4#16).wellFormed = true := by decide +kernel
theorem test_wellFormed_refuses_good_header : (Instr.dropHeaderMalformed 0 2#16 5#16).wellFormed = false := by decide +kernel
theorem test_decode_spells_nothing : decodeTableWord 16 4096 = none := by decide

/-! ## Numbers of the manual -/

/-- R191: the remainder of one word of zeros, started from all ones, worked by hand. -/
theorem test_check_of_zero_word : checkOf [0#16] = 0x1D0F#16 := by decide +kernel
/-- R23's worked value. -/
theorem test_slew_step_at_200_ppm : PartRecord.atPowerOn.slewStep = 13421772 := by decide +kernel
/-- 12.1: the recorder's drop time at the clap, under pull DOWN. -/
theorem test_forward_under_pull_down :
    forward { profileOf .recorder with pull := .down } 1200000000000 1201202002000 = 1201200801198 := by decide +kernel
/-- 12.1: the recorder's ROLL. -/
theorem test_inverse_under_pull_down :
    inverse { profileOf .recorder with pull := .down } 1200000000000 1200994995200 = 1200995990196 := by decide +kernel
/-- R50: drop tick 1,000 is passed over under pull UP. -/
theorem test_inverse_of_passed_over_tick :
    inverse { profileOf .camera with pull := .up } 0 1000 = 1000 := by decide +kernel
/-- The worked FRAME of chapter 4: 01:26:49;10. -/
theorem test_drop_frame_label :
    labelOf 30 true 156124 = { hours := 1, minutes := 26, seconds := 49, frames := 10 } := by decide +kernel
/-- R73's worked label that is left out. -/
theorem test_left_out_label_is_clamped :
    Label.position { hours := 0, minutes := 1, seconds := 0, frames := 0 } 30 true = (1800, true) := by decide +kernel
/-- R74: half a day away, the earlier frame number. -/
theorem test_resolve_half_a_day_away : resolve 100 50 200 = 150 := by decide +kernel

/-- R146: the start bit, then each word with its most significant bit first. -/
theorem test_trunk_bits :
    trunkBits [0xA001#16] = .start :: ((lineBits [0xA001#16]).drop 1).map .data
      ∧ wordsOfTrunk (.start :: List.replicate 15 (.data false) ++ [.data true]) = some [1#16]
      ∧ wordsOfTrunk [.start, .start] = none := by decide +kernel

/-- R82: a start bit, which is low, and then the word's bits, the most significant first. -/
theorem test_line_bits :
    lineBits [0xA001#16] = [false] ++ [true, false, true, false, false, false, false, false, false, false, false, false,
      false, false, false, true] := by decide +kernel

/-- R82: bits that begin high are no packet. -/
theorem test_words_of_line :
    wordsOfLine (false :: (List.replicate 15 false ++ [true])) = some [1#16]
      ∧ wordsOfLine (List.replicate 17 true) = none := by decide +kernel

/-! ## House time and the tracker -/

/-- R1's worked first epoch at c = 942,774. -/
theorem test_epoch_first :
    (after .epoch (State.reset.setCorrection 942774)).clock.time = 4000
      ∧ (after .epoch (State.reset.setCorrection 942774)).clock.fraction = 942774 := by decide +kernel
/-- R1's worked eighteenth epoch, which carries. -/
theorem test_epoch_carries :
    (after .epoch ((State.reset.setClock { State.reset.clock with
      fraction := 16027158 }).setCorrection 942774)).clock.time = 4001 := by decide +kernel

/-- TRACK, an arrival of error 180 after 2,002 epochs (12.2). -/
def tracking : State :=
  let s := receivingAt State.reset .a 1000000
  (s.setTracker { s.tracker with state := .track, firstArrival := false, missingTime := 2002 }).setClock
    { s.clock with time := 1000500 }

/-- 12.2: the loop update after the jam. -/
theorem test_time_arrival_in_track :
    (after (.trunkPacketComplete .a (timeWords 1000180 0 0)) tracking).clock.correction = 848497
      ∧ (after (.trunkPacketComplete .a (timeWords 1000180 0 0)) tracking).tracker.drift = 94277 := by decide +kernel

/-- 12.2: the arrival that jams, from SLEW with the guard clear. -/
def slewing : State :=
  let s := receivingAt State.reset .a 1300004000000
  (s.setTracker { s.tracker with state := .slew, firstArrival := false }).setClock
    { s.clock with time := 1300004000000, stepCount := 3, correction := 13421772 }

theorem test_time_arrival_jams :
    (after (.trunkPacketComplete .a (timeWords 1300015231240 1 0)) slewing).clock.time = 1300015231240
      ∧ (after (.trunkPacketComplete .a (timeWords 1300015231240 1 0)) slewing).clock.stepCount = 4 := by decide +kernel

/-- 12.2: camera 0's boundary moves from frame 162,339 to frame 162,340. -/
theorem test_jam_moves_boundary :
    (((activeDrop .camera).jammed 1300004000000 1300015231240 11231240).cadence.boundary = 1300018720000)
      := by decide +kernel

theorem test_missing_time_expiry :
    (after .missingTimeExpiry (State.reset.setTracker { Tracker.atPowerOn with
      state := .locked, drift := 7, expiryDue := true })).clock.correction = 7 := by decide +kernel
/-- R20: the epoch's expiry is taken before the arrival, whose error beyond the window then meets FREEWHEEL's rule: with no take
ROLLING it jams at once, where LOCKED would have counted an outlier. -/
theorem test_arrival_after_expiry :
    (after (.trunkPacketComplete .a (timeWords 90000000 0 0)) ((receivingAt State.reset .a 0).setTracker { Tracker.atPowerOn with
      state := .locked, expiryDue := true })).tracker.state = .track
    ∧ ((after (.trunkPacketComplete .a (timeWords 90000000 0 0)) ((receivingAt State.reset .a 0).setTracker
      { Tracker.atPowerOn with state := .locked, expiryDue := true })).latchOf .refLost).pending = true := by decide +kernel
theorem test_house_boundary_event :
    (after .houseBoundaryEvent (State.reset.setClock { State.reset.clock with time := 8008001 })).house.boundary = 16016000
      := by decide +kernel

/-! ## Drop lines and stamps -/

/-- Chapter 3's recorder at its boundary for frame 156,124: target 1,000,192,793,600 becomes one P_f more. -/
def atBoundary : State :=
  (withDrop { activeDrop .camera with
    profile := { profileOf .camera with rate := .fps30000over1001 },
    cadence := { Cadence.atPowerOn with target := 1000192793600, boundary := 1000192793600 } }).setClock
    { State.reset.clock with time := 1000192795000 }

theorem test_boundary_event_hands_on_frame :
    ((after (.dropBoundaryEvent 0) atBoundary).drop 0).cadence.lastFrame = 156124
      ∧ ((after (.dropBoundaryEvent 0) atBoundary).drop 0).cadence.target = 1000199200000 := by decide +kernel
/-- R79: 250,048,198.4 samples at the target; after a jam, the sample at the event's house time, 1,400 ticks on. -/
theorem test_sample_after_jam :
    (atBoundary.updProfile 0 (fun p => { p with audio := .khz192 })).eventTime 0 = 1000192793600
      ∧ (atBoundary.updCadence 0 (fun c => { c with stepped := true })).eventTime 0 = 1000192795000 := by decide +kernel
theorem test_boundary_event_raises_pulse :
    ((after (.dropBoundaryEvent 0) atBoundary).drop 0).df.pulseEnd = some 1000193753600 := by decide +kernel
theorem test_pulse_end :
    ((after (.pulseEnd 0) (withDrop { activeDrop .camera with
      df := { DfLine.atPowerOn with level := true, pulseEnd := some 0 } })).drop 0).df.level = false := by decide +kernel

/-- A drop at 48 kHz on WORD, whose samples begin at multiples of 4,000 house ticks, at house time 1,000. -/
def onWordClock : State :=
  (withDrop { activeDrop .recorder with
    profile := { profileOf .recorder with dfFunction := .word, audio := .khz48 } }).setClock
    { State.reset.clock with time := 1000 }

/-- R66: the line follows the sample clock at every instant, at count 128 (1,000 ticks on) into its second half. -/
theorem test_word_clock_between_edges :
    onWordClock.dfLevel 0 0 = true ∧ onWordClock.dfLevel 0 128 = false := by decide +kernel
/-- R66: a jam to 3,000 moves the clock with drop time, at that instant and at each one after it. -/
theorem test_word_clock_after_jam :
    (onWordClock.jam 2000).dfLevel 0 0 = false ∧ (onWordClock.jam 2000).dfLevel 0 128 = true := by decide +kernel

/-- A drop whose shift register holds part of a packet. -/
def receivingDrop (r : Role) (c : Clocking) : Drop :=
  { activeDrop r with
    profile := { profileOf r with clocking := c },
    line := { (activeDrop r).line with shift := .receiving } }

/-- R81, R88: DK runs at the line rate under PART clocking, and a wait stops it low. -/
theorem test_dk_stops_low_in_a_wait :
    ((withDrop (receivingDrop .camera .part)).drop 0).dk = .running .mbit2 ∧
    ((after (.stampPacketComplete 0 (stampWords 1 0 5 none)) (withDrop (receivingDrop .camera .part))).drop 0).dk = .low := by
  decide +kernel

/-- R88: under PART clocking a stored packet starts a wait. -/
theorem test_stamp_packet_starts_wait :
    ((after (.stampPacketComplete 0 (stampWords 1 0 5 none)) (withDrop (receivingDrop .camera .part))).drop 0).line.wait
      = true := by decide +kernel
/-- R86: a wrong check word is counted. -/
theorem test_stamp_packet_with_wrong_check :
    ((after (.stampPacketComplete 0 [2#16, 4#16, 0#16, 0#16, 0#16, 0#16, 0#16])
      (withDrop (receivingDrop .camera .part))).drop 0).line.counters.checkFailures = 1 := by decide +kernel
theorem test_header_malformed_resynchronises :
    ((after (.dropHeaderMalformed 0 1#16 4#16) (withDrop (receivingDrop .camera .part))).drop 0).line.shift
      = .resynchronising := by decide +kernel
/-- R95, R99: a level change wakes a DORMANT drop. -/
theorem test_activity_wakes :
    ((after (.dropActivity 0 .drLevel) (withDrop { activeDrop .camera with
      line := { Line.atPowerOn with state := .dormant } })).drop 0).line.state = .active := by decide +kernel

/-- A camera drop with a region of its own and the take counter at 11, at the house time of 12.1. -/
def camera0 : State :=
  let s := withDrop { activeDrop .camera with take := { Take.atPowerOn with counter := 11 } }
  (s.updRegion 0 (fun r => { r with assigned := true, size := 64 })).setClock
    { s.clock with time := 1200999900000, stepCount := 3 }

/-- 12.1: camera 0's ROLL opens take 12 at 1,200,999,800,000. -/
theorem test_roll_opens_take :
    ((after .intakeComplete (inIntake camera0 (stampWords 1 0 149975 none))).drop 0).take.rollTime = 1200999800000
      ∧ ((after .intakeComplete (inIntake camera0 (stampWords 1 0 149975 none))).drop 0).take.number = 12 := by
  decide +kernel
/-- R116: a CUT on an IDLE take is flagged ORPHAN_CUT. -/
theorem test_cut_on_idle_take :
    ((after .intakeComplete (inIntake camera0 (stampWords 2 0 149975 none))).heldItems.map
      (fun h => match h.item with
        | .stamp i => i.flags.orphanCut
        | _ => false)) = [true] := by decide +kernel
/-- 12.1: the recorder's position at the clap. -/
theorem test_participant_record :
    (withDrop { activeDrop .recorder with
        profile := { profileOf .recorder with rate := .fps30000over1001, pull := .down, audio := .khz48 },
        cadence := { Cadence.atPowerOn with anchor := 1200000000000 },
        take := { Take.atPowerOn with number := 41 } }).participantRecord 1201202002000 0
      = { drop := 0, takeNumber := 41, frame := 187500, subframe := 32, samplePresent := true, sample := 300300200 } := by
  decide +kernel
/-- R107: the search goes on from the drop after the last served one. -/
theorem test_intake_serves_in_turn :
    (after .intakeTake ((State.reset.updLine 2 (fun l => { l with holding := some ⟨[], 0, 0⟩ })).updLine 5
      (fun l => { l with holding := some ⟨[], 0, 0⟩ }))).intake.lastServed = 2 := by decide +kernel

/-! ## Store, trunk, management and reports -/

/-- R133: the oldest item not in flight makes room. -/
theorem test_replace_oldest_passes_over_flight :
    let s := (withDrop { activeDrop .edit with line := { (activeDrop .edit).line with copyQueue := [700] } }).updRegion 0
      (fun r => { r with
        assigned := true, policy := .replaceOldest, items := (List.range 8).map (fun i => heldClap (700 + i) true 1#8) })
    ((s.admitItem 0 (some 0) (heldClap 708 true 0#8)).region 0).items.map Held.serial
      = [700, 702, 703, 704, 705, 706, 707, 708] := by decide +kernel
/-- R129: an item of age 2^31 is stale. -/
theorem test_item_stale :
    (after .itemStale ((holding State.reset [heldClap 1 true 0#8]).setStore
      { (holding State.reset [heldClap 1 true 0#8]).store with serial := 2147483649 })).heldItems = [] := by decide +kernel
/-- R148: a STAMP may not arrive on side A. -/
theorem test_stamp_on_side_a_is_misdirected :
    (after (.trunkPacketComplete .a (trunkPacket 63 4 .stamp 0 0 ((heldClap 1 true 0#8).item.payload 1)))
      (receivingAt State.reset .a 0)).trunk.sideA.counters.misdirected = 1 := by decide +kernel
/-- R160: with no route entry a foreign item goes up. -/
theorem test_foreign_stamp_goes_up :
    (after (.trunkPacketComplete .b (trunkPacket 63 4 .stamp 0 0 ((heldClap 1 true 0#8).item.payload 1)))
      (receivingAt State.reset .b 0)).trunk.upFifo.length = 1 := by decide +kernel
/-- R146: the capture is the house time of the start bit's instant. -/
theorem test_start_bit_captures :
    (after (.trunkStartBit .b 511) State.reset).trunk.sideB.receiver.capture = 3992 := by decide +kernel
/-- R173: IDENT of station 5 carries the part code and the station. -/
theorem test_ident_record :
    (State.reset.setTrunk { State.reset.trunk with station := 5#6 }).ident = [2408#16, 5#16, 0#16, 0#16, 0#16] := by
  decide +kernel
/-- R127: a load that shares a slot with the pass region is refused OVERLAP. -/
theorem test_load_region_overlap :
    ((after .loadRegion (asking State.reset 1 3 0 [0x8000#16, 448#16, 8#16])).trunk.sideA.replies.map
      (fun w => bitsOf (wordAt w 3) 0 4)) = [3] := by decide +kernel
/-- R22: a lock window of 0 is raised to 1, and the reply is OK_CLAMPED. -/
theorem test_load_part_raises_lock_window :
    (after .loadPart (asking State.reset 1 1 0 ([0x0104#16, 0#16] ++ PartRecord.atPowerOn.words.drop 2))).part.lockWindow = 1
      := by decide +kernel
theorem test_unknown_request :
    ((after .unknownRequest (asking State.reset 4 1 0 [])).trunk.sideA.replies.map
      (fun w => bitsOf (wordAt w 3) 0 4)) = [6] := by decide +kernel
/-- R183: an eligible cause fills the report slot and closes the gate. -/
theorem test_report_emission :
    (after .reportEmission ((State.reset.setPart { PartRecord.atPowerOn with
      causeEnables := 0x800#12, timingEnable := true }).latch .refLost none)).reports.gateOpen = false := by decide +kernel

/-! ## What meets the hypotheses of each statement -/

/-- A laws-abiding state with a command waiting, for the statements that a step keeps a law. -/
theorem witness_steps : ∃ s t : State, s.pending = [.epoch] ∧ step s = .next t :=
  ⟨{ State.reset with pending := [.epoch] }, _, rfl, rfl⟩

theorem witness_StepTakesFrontCommand : ∃ s : State, s.pending = [] := ⟨State.reset, rfl⟩

theorem witness_PowerOnResetEndLoadsTrim : ∃ s : State, s.inReset = true ∧ s.trim.value = 6710887 :=
  ⟨State.inPowerOnReset 6710887, rfl, rfl⟩

theorem witness_EpochAdvancesHouseClock : ∃ s : State, s.inReset = false ∧ s.clock.fraction < 16777216 ∧
    -67108864 ≤ s.clock.correction ∧ s.clock.correction ≤ 67108864 ∧ s.clock.time + 4004 < 2 ^ 64 ∧
    s.tracker.hold = false ∧ (s.drop 0).profile.clocking = .device ∧ (s.drop 0).line.shift = .receiving ∧
    (s.drop 0).line.transmission ≠ none :=
  ⟨(withDrop { receivingDrop .camera .device with
      line := { (receivingDrop .camera .device).line with transmission := some (.frame []) } }).setClock
    { State.reset.clock with fraction := 16777215, correction := 67108864, time := 18446744073709547611 },
    by decide +kernel⟩

theorem witness_EpochAdvancesHouseClock_held : ∃ s : State, s.inReset = false ∧ s.clock.fraction < 16777216 ∧
    -67108864 ≤ s.clock.correction ∧ s.clock.correction ≤ 67108864 ∧ s.clock.time + 4004 < 2 ^ 64 ∧
    s.tracker.hold = true :=
  ⟨(State.reset.setTracker { Tracker.atPowerOn with state := .freewheel, hold := true }).setCorrection (-67108864),
    by decide +kernel⟩

/-- SLEW at the largest slew limit, at the last house time from which an epoch cannot pass the end. -/
theorem witness_EpochAdvanceWithinLimits :
    ∃ s : State, s.TimeBounded ∧ s.inReset = false ∧ s.clock.time + 4004 < 2 ^ 64 ∧ s.tracker.state = .slew :=
  ⟨((State.reset.setTracker { Tracker.atPowerOn with state := .slew }).setPart
      { PartRecord.atPowerOn with slewPpm := 1000 }).setClock
      { State.reset.clock with time := 18446744073709547611, correction := -67108864 },
    by constructor <;> decide +kernel, rfl, by decide +kernel, rfl⟩

theorem witness_HouseBoundaryEvent : ∃ s : State, s.inReset = false ∧ s.house.boundary ≤ s.clock.time ∧
    s.house.pendingRate = some .fps25 ∧ s.reports.timerRunning = true ∧
    s.part.holdoff ≤ min 255 (s.reports.timerCount + 1) :=
  ⟨((State.reset.setClock { State.reset.clock with time := 8008000 }).setHouse
      { State.reset.house with pendingRate := some .fps25 }).setReports
      { ReportUnit.atPowerOn with timerRunning := true, timerCount := 3 }, by decide +kernel⟩

theorem witness_HouseBoundaryEvent_below : ∃ s : State, s.inReset = false ∧ s.house.boundary ≤ s.clock.time ∧
    s.reports.timerRunning = true ∧ min 255 (s.reports.timerCount + 1) < s.part.holdoff :=
  ⟨(State.reset.setClock { State.reset.clock with time := 8008000 }).setReports
      { ReportUnit.atPowerOn with timerRunning := true, timerCount := 2 }, by decide +kernel⟩

theorem witness_MissingTimeExpiryFreewheels (t : TrackerState) (h : t = .track ∨ t = .locked ∨ t = .slew) :
    ∃ s : State, s.inReset = false ∧ s.ExpiryActs ∧ s.tracker.state = t :=
  ⟨State.reset.setTracker { Tracker.atPowerOn with state := t, expiryDue := true }, rfl, ⟨rfl, h⟩, rfl⟩

/-- A valid TIME packet, of the largest hop that is one. -/
theorem timeIn (s : State) (sent quality : Nat) (h : s.inReset = false)
    (h' : (s.port .a).receiver.condition = .receiving)
    (hs : (sent = 1000180 ∨ sent = 0) ∧ quality = 0 ∨ sent = 0 ∧ quality = 3) :
    s.TimeIn (timeWords sent quality 14) := by
  rcases hs with ⟨rfl | rfl, rfl⟩ | ⟨rfl, rfl⟩ <;> refine ⟨⟨h, h', ?_⟩, ?_, ?_, ?_, ?_⟩ <;> decide +kernel

/-- The part after reset with its tracker and take of drop 0 as given, at house time 999,999, receiving on side A a packet
whose start bit came at a house time. -/
def arriving (tr : Tracker) (take : TakeState) (captured : Nat) : State :=
  ((receivingAt (withDrop { activeDrop .camera with
      take := { Take.atPowerOn with state := take }, df := { DfLine.atPowerOn with pulseEnd := some 1000000 } }) .a
    captured).setTracker tr).setClock { State.reset.clock with time := 999999 }

/-- A disciplining arrival after the epoch of an expiry. -/
theorem witness_MissingTimeExpiryFreewheels_arrival (t : TrackerState) (h : t = .track ∨ t = .locked ∨ t = .slew) :
    ∃ (s : State) (words : List Word), s.inReset = false ∧ s.ExpiryActs ∧ s.tracker.state = t ∧ s.TimeIn words ∧
      s.tracker.hold = false ∧ timeQuality words ≠ .unreferenced :=
  ⟨arriving { Tracker.atPowerOn with state := t, expiryDue := true } .idle 5, timeWords 0 0 14, rfl, ⟨rfl, h⟩, rfl,
    timeIn _ 0 0 rfl rfl (Or.inl ⟨Or.inr rfl, rfl⟩), rfl, by decide +kernel⟩

theorem disciplines (tr : Tracker) (take : TakeState) (captured sent : Nat) (e : Int) (hh : tr.hold = false)
    (hx : tr.expiryDue = false) (hs : sent = 1000180 ∨ sent = 0)
    (he : e = max (-1099511627776) (min 1099511627776 ((sent : Int) + 0 - captured))) :
    (arriving tr take captured).Disciplines (timeWords sent 0 14) e := by
  refine ⟨timeIn _ sent 0 rfl rfl (Or.inl ⟨hs, rfl⟩), fun h => absurd (hx.symm.trans h.1) Bool.false_ne_true, hh, ?_, ?_, ?_⟩
  · rcases hs with rfl | rfl <;> decide +kernel
  · show PartRecord.atPowerOn.lockWindow ≤ PartRecord.atPowerOn.stepThreshold
    decide +kernel
  · rcases hs with rfl | rfl <;> exact he

/-- Every tracker state, with drop 0 enabled, its take ROLLING and a pulse to come, and with a step that would pass house
zero; outside ACQUIRE the guard flag is clear. -/
theorem witness_AcquireArrivalJams (x : TrackerState) : ∃ (s : State) (words : List Word) (e : Int) (h : Nat),
    s.Disciplines words e ∧ s.Jams e ∧ (h : Int) = max 0 (s.clock.time + e) ∧ h < 2 ^ 64 ∧ s.tracker.state = x ∧
    s.tracker.forceJam = false ∧ (s.drop 0).take.state = .rolling ∧ (s.drop 0).line.state ≠ .disabled ∧
    (s.drop 0).df.pulseEnd = some 1000000 ∧ (s.drop 1).line.state = .disabled ∧ (s.drop 1).take.state = .idle := by
  refine ⟨arriving { Tracker.atPowerOn with state := x, outlierCount := 2 } .rolling 90000000, timeWords 0 0 14, -90000000, 0,
    disciplines _ _ _ 0 _ rfl rfl (Or.inr rfl) rfl, ?_⟩
  unfold State.Jams State.Guarded State.StepDue
  cases x <;> decide +kernel

/-- A FORCE_JAM pending in LOCKED under the guard, at an arrival without error. -/
theorem witness_AcquireArrivalJams_forced : ∃ (s : State) (words : List Word) (e : Int) (h : Nat),
    s.Disciplines words e ∧ s.Jams e ∧ (h : Int) = max 0 (s.clock.time + e) ∧ h < 2 ^ 64 ∧ s.Guarded ∧
    s.tracker.state = .locked ∧ e = 0 :=
  ⟨arriving { Tracker.atPowerOn with state := .locked, guardFlag := true, forceJam := true } .rolling 1000180,
    timeWords 1000180 0 14, 0, 999999, disciplines _ _ _ 1000180 _ rfl rfl (Or.inl rfl) rfl, Or.inl rfl, by decide +kernel,
    by decide +kernel, ⟨rfl, rfl⟩, rfl, rfl⟩

/-- Each state that makes loop updates, at the edge of the lock window and, where that leads to one, beyond it; TRACK with
its last count before N_lock. -/
theorem witness_LockedArrivalRunsLoop (x : TrackerState) (near : Bool) (h : x ≠ .acquire) (h' : x = .slew → near = true) :
    ∃ (s : State) (words : List Word) (e : Int), s.Disciplines words e ∧ s.tracker.forceJam = false ∧
      s.tracker.state = x ∧ e.natAbs = (if near then s.part.lockWindow else s.part.lockWindow + 1) ∧
      s.part.nLock ≤ min 255 (s.tracker.lockCount + 1) ∧
      (((s.tracker.state = .track ∨ s.tracker.state = .locked ∨ s.tracker.state = .freewheel)
          ∧ e.natAbs ≤ s.part.stepThreshold)
        ∨ (s.tracker.state = .slew ∧ e.natAbs ≤ s.part.lockWindow)) := by
  refine ⟨arriving { Tracker.atPowerOn with state := x, lockCount := 7 } .idle (if near then 999220 else 999219),
    timeWords 1000180 0 14, if near then 960 else 961,
    disciplines _ _ _ 1000180 _ rfl rfl (Or.inl rfl) (by cases near <;> rfl), ?_⟩
  cases x <;> cases near <;> first
    | exact absurd rfl h
    | exact absurd (h' rfl) Bool.noConfusion
    | decide +kernel

theorem witness_GuardedArrivalNeverJams : ∃ (s : State) (words : List Word), s.TimeIn words ∧ s.Guarded ∧
    s.tracker.forceJam = false ∧ s.tracker.state ≠ .acquire :=
  ⟨arriving { Tracker.atPowerOn with state := .slew, guardFlag := true } .rolling 90000000, timeWords 1000180 0 14,
    timeIn _ 1000180 0 rfl rfl (Or.inl ⟨Or.inl rfl, rfl⟩), ⟨rfl, rfl⟩, rfl, TrackerState.noConfusion⟩

/-- A step decision under the guard, from each state that takes one. -/
theorem witness_GuardedArrivalNeverJams_step (x : TrackerState) (h : x = .track ∨ x = .locked ∨ x = .freewheel) :
    ∃ (s : State) (words : List Word) (e : Int), s.Disciplines words e ∧ s.tracker.forceJam = false ∧ s.Guarded ∧
      s.StepDue e ∧ s.tracker.state = x := by
  refine ⟨arriving { Tracker.atPowerOn with state := x, guardFlag := true, outlierCount := 2 } .rolling 90000000,
    timeWords 0 0 14, -90000000, disciplines _ _ _ 0 _ rfl rfl (Or.inr rfl) rfl, rfl, ⟨rfl, rfl⟩, ?_⟩
  unfold State.StepDue
  rcases h with rfl | rfl | rfl <;> decide +kernel

/-- A slew update past the lock window without the guard, and one past the step threshold under it. -/
theorem witness_GuardedArrivalNeverJams_slew (far : Bool) : ∃ (s : State) (words : List Word) (e : Int),
    s.Disciplines words e ∧ s.tracker.forceJam = false ∧ s.tracker.state = .slew ∧ s.part.lockWindow < e.natAbs ∧
    (s.Guarded ∨ e.natAbs ≤ s.part.stepThreshold) ∧ (s.part.stepThreshold < e.natAbs ↔ far = true) := by
  refine ⟨arriving { Tracker.atPowerOn with state := .slew, guardFlag := far } .rolling (if far then 90000000 else 961),
    timeWords 0 0 14, if far then -90000000 else -961,
    disciplines _ _ _ 0 _ rfl rfl (Or.inr rfl) (by cases far <;> rfl), ?_⟩
  unfold State.Guarded
  cases far <;> decide +kernel

/-- An outlier that does not yet bring the step decision, and arrivals that do not discipline. -/
theorem witness_GuardedArrivalNeverJams_rest (x : TrackerState) (h : x = .track ∨ x = .locked) (held : Bool) :
    (∃ (s : State) (words : List Word) (e : Int), s.Disciplines words e ∧ s.tracker.forceJam = false ∧
      s.tracker.state = x ∧ s.part.stepThreshold < e.natAbs ∧ min 255 (s.tracker.outlierCount + 1) < s.part.nOut)
    ∧ ∃ (s : State) (words : List Word), s.TimeIn words ∧ s.tracker.hold = held ∧
        (s.tracker.hold = true ∨ timeQuality words = .unreferenced) := by
  refine ⟨⟨arriving { Tracker.atPowerOn with state := x, outlierCount := 1 } .idle 90000000, timeWords 0 0 14, -90000000,
    disciplines _ _ _ 0 _ rfl rfl (Or.inr rfl) rfl, ?_⟩,
    ⟨arriving { Tracker.atPowerOn with state := .freewheel, hold := held } .idle 5, timeWords 0 3 14,
      timeIn _ 0 3 rfl rfl (Or.inr ⟨rfl, rfl⟩), rfl, ?_⟩⟩
  · rcases h with rfl | rfl <;> decide +kernel
  · exact Or.inr (by decide +kernel)

/-- A state within its time bounds, and with a take ROLLING and the guard set, with a command waiting. -/
theorem witness_TimeBoundsKept : ∃ s t : State, s.TimeBounded ∧ step s = .next t ∧ s.pending = [.epoch] :=
  ⟨{ State.reset with pending := [.epoch] }, _,
    by constructor <;> decide +kernel, rfl, rfl⟩

theorem witness_GuardFlagKept : ∃ s t : State, s.GuardTrue ∧ step s = .next t ∧ s.tracker.guardFlag = true :=
  ⟨{ (withDrop { activeDrop .camera with take := { Take.atPowerOn with state := .rolling } }).setTracker
      { Tracker.atPowerOn with guardFlag := true } with pending := [.epoch] }, _,
    ⟨fun _ => ⟨0, by decide +kernel⟩, fun _ => rfl⟩, rfl, rfl⟩

theorem witness_ConversionsMeet : ∃ (p : Profile) (anchor : Int) (t h : Nat), 0 < t ∧
    0 < (inverse p anchor t : Int) + p.offset ∧ h < inverse p anchor t :=
  ⟨{ profileOf .camera with pull := .up, offset := -1 }, 7, 1, 1, by decide +kernel⟩

/-- A FRAME that waits unsent. -/
def waitingFrame : Frame := camera0.composeFrame 0 3 4

/-- A drop at its boundary, with an unsent FRAME in its slot, under each DF function, with an anchor pending or not. -/
theorem witness_DropBoundaryEvent (f : DfFunction) (anchor : Bool) : ∃ (s : State) (d : DropId), s.inReset = false ∧
    (s.drop d).line.state ≠ .disabled ∧ (s.drop d).cadence.boundary ≤ s.clock.time ∧
    (s.drop d).cadence.pendingProfile = none ∧ (s.drop d).cadence.pendingAnchor = anchor ∧
    (s.drop d).profile.quietLimit = 0 ∧ (s.drop d).profile.dfFunction = f ∧ (s.drop d).line.slot ≠ none := by
  refine ⟨withDrop { activeDrop .camera with
    profile := { profileOf .camera with dfFunction := f }, line := { (activeDrop .camera).line with
      slot := some waitingFrame }, cadence := { Cadence.atPowerOn with pendingAnchor := anchor } }, 0, ?_⟩
  cases f <;> cases anchor <;> decide +kernel

/-- The delivery set that a local item of a kind would be given is not empty (R131). -/
def Routed (s : State) (k : RouteKind) : Prop :=
  (s.lookup k s.sourceStation).1 = true ∨ (s.lookup k s.sourceStation).2 ≠ 0#8

/-- An item of drop `d` that is made now is held. -/
def TakesLocal (s : State) (d : DropId) (k : RouteKind) : Prop :=
  s.TakesItem (dropRegion d) (s.lookup k s.sourceStation).1 (s.lookup k s.sourceStation).2

/-- Where nothing is held, no held item goes stale. -/
theorem nothingStale {s : State} (h : s.heldItems = []) (n : Nat) : s.NoneStaleAfter n := by
  intro x hx
  rw [h] at hx
  cases hx

theorem takesItem {s : State} {d : DropId} (h : ((s.region (dropRegion d)).assigned = true ∧
    (s.region (dropRegion d)).items.length + 1 ≤ (s.region (dropRegion d)).size) ∧
    (s.lookup .stamp s.sourceStation).1 = true ∧ s.heldItems = []) : TakesLocal s d .stamp :=
  show s.TakesItem _ _ _ from ⟨h.1, Or.inl h.2.1, nothingStale h.2.2 1⟩

/-- Camera 0 with its take ROLLING, and clap-capable. -/
def rolling0 : State :=
  camera0.updDrop 0 (fun x => { x with
    profile := { x.profile with clapCapable := true }, take := { x.take with state := .rolling, number := 12 } })

/-- A profile pending at a ROLLING take that changes a guarded field, enabled or not. -/
theorem witness_DropBoundaryEvent_profile (on : Bool) : ∃ (s : State) (d : DropId) (p : Profile), s.inReset = false ∧
    (s.drop d).line.state ≠ .disabled ∧ (s.drop d).cadence.boundary ≤ s.clock.time ∧
    (s.drop d).cadence.pendingProfile = some p ∧ (s.drop d).take.state = .rolling ∧ GuardedChange (s.drop d).profile p ∧
    TakesLocal (s.withProfile d p) d .stamp ∧ p.enabled = on := by
  refine ⟨rolling0.updCadence 0 (fun c => { c with
      pendingProfile := some { profileOf .camera with rate := .fps25, enabled := on } }), 0,
    { profileOf .camera with rate := .fps25, enabled := on }, rfl, ?_, ?_, rfl, rfl, Or.inl ?_,
    takesItem ?_, rfl⟩
  all_goals cases on <;> decide +kernel

/-- A quiet timer that this event takes to its limit, and one that it takes to the count below; with an anchor pending or not,
and with activity, which the event clears the timer for, or not. -/
theorem witness_DropBoundaryEvent_quiet (reached anchor active : Bool) : ∃ (s : State) (d : DropId), s.inReset = false ∧
    (s.drop d).line.state = .active ∧ (s.drop d).cadence.boundary ≤ s.clock.time ∧
    (s.drop d).cadence.pendingProfile = none ∧ (s.drop d).cadence.pendingAnchor = anchor ∧
    (s.drop d).profile.quietLimit = 255 ∧ (s.DormancyDue d ↔ reached = true ∧ active = false) := by
  refine ⟨rolling0.updDrop 0 (fun y => { y with
    profile := { y.profile with quietLimit := 255 }, cadence := { y.cadence with pendingAnchor := anchor },
    line := { y.line with quietTimer := if reached then 254 else 253, activity := active } }), 0, rfl, rfl, ?_, rfl, rfl,
    rfl, ?_⟩
  · cases reached <;> cases anchor <;> cases active <;> decide +kernel
  · unfold State.DormancyDue State.QuietCounts
    cases reached <;> cases anchor <;> cases active <;> decide +kernel

/-- A drop whose quiet timer reaches its limit, with its take IDLE or ROLLING. -/
theorem witness_QuietDropGoesDormant (x : TakeState) : ∃ (s : State) (d : DropId), s.inReset = false ∧ s.QuietCounts d ∧
    (s.drop d).cadence.boundary ≤ s.clock.time ∧ (s.drop d).cadence.pendingProfile = none ∧
    (s.drop d).cadence.pendingAnchor = false ∧ (s.drop d).profile.quietLimit ≠ 0 ∧
    (s.drop d).profile.quietLimit ≤ min 255 ((s.drop d).line.quietTimer + 1) ∧ (s.drop d).take.state = x ∧
    TakesLocal s d .stamp := by
  refine ⟨rolling0.updDrop 0 (fun y => { y with
    profile := { y.profile with quietLimit := 255 }, line := { y.line with quietTimer := 254 },
    take := { y.take with state := x } }), 0, rfl, ?_, ?_, rfl, rfl, ?_, ?_, rfl, takesItem ?_⟩
  · unfold State.QuietCounts; cases x <;> decide +kernel
  all_goals cases x <;> decide +kernel

theorem witness_DfLineEdges_pulse : ∃ (s : State) (d : DropId) (e : Nat), s.inReset = false ∧
    (s.drop d).df.pulseEnd = some e ∧ e ≤ s.clock.time :=
  ⟨withDrop { activeDrop .camera with df := { DfLine.atPowerOn with pulseEnd := some 0 } }, 0, 0, by decide +kernel⟩

theorem witness_DfLineEdges_word : ∃ (s : State) (d : DropId) (k : DividerCount) (ps : Nat), s.inReset = false ∧
    (s.drop d).line.state ≠ .disabled ∧ (s.drop d).profile.dfFunction = .word ∧
    (s.drop d).profile.audio.period = some ps ∧ (s.drop d).df.waitsForBoundary = false ∧
    s.clock.time + k.val * 125 / 16 < 2 ^ 64 :=
  ⟨withDrop { activeDrop .recorder with
    profile := { profileOf .recorder with dfFunction := .word, audio := .khz192 } }, 0, 511, 1000, by decide +kernel⟩

theorem witness_LabelsRoundTrip : (60 ∈ [24, 25, 30, 48, 50, 60, 100, 120] ∧ ((60 : Nat) = 30 ∨ (60 : Nat) = 60))
    ∧ ∃ day m n : Nat, m < day ∧ n % day = m ∧ m = 99 := ⟨by decide, 100, 99, 199, by decide⟩

theorem witness_DropPacketAbandoned : ∃ (s : State) (d : DropId) (kind len : Word), s.inReset = false ∧
    (s.drop d).onLine = true ∧ (s.drop d).line.shift = .receiving ∧ (s.drop d).line.wait = false ∧
    dropHeaderOk kind len = false ∧ 48 ≤ (s.drop d).line.receiveStall :=
  ⟨withDrop { receivingDrop .camera .device with
    line := { (receivingDrop .camera .device).line with receiveStall := 48 } }, 0, 2#16, 7#16, by decide +kernel⟩

theorem witness_DropPacketAbandoned_resync : ∃ (s : State) (d : DropId), s.inReset = false ∧
    (s.drop d).onLine = true ∧ (s.drop d).line.shift = .resynchronising :=
  ⟨withDrop { activeDrop .camera with line := { (activeDrop .camera).line with shift := .resynchronising } }, 0,
    by decide +kernel⟩

/-- For each of the three cases: a wrong check, a full holding register, an empty one. -/
theorem witness_StampPacketJudged (full : Bool) : ∃ (s : State) (d : DropId) (good bad : List Word), s.inReset = false ∧
    (s.drop d).onLine = true ∧ (s.drop d).line.shift = .receiving ∧ (s.drop d).line.wait = false ∧
    dropComplete good = true ∧ checkCorrect good = true ∧ dropComplete bad = true ∧ checkCorrect bad = false ∧
    (s.drop d).profile.clocking = .device ∧ (s.drop d).line.holding.isSome = full := by
  refine ⟨withDrop { receivingDrop .camera .device with
    line := { (receivingDrop .camera .device).line with
      holding := if full then some { words := [], time := 0, stepCount := 0 } else none } }, 0,
    stampWords 1 0 5 none, [2#16, 4#16, 0#16, 0#16, 0#16, 0#16, 0#16], ?_⟩
  cases full <;> decide +kernel

theorem witness_ActivityWakes (c : LineChange) (x : DropState) (h : x = .active ∨ x = .dormant) :
    ∃ (s : State) (d : DropId), s.inReset = false ∧ (s.drop d).onLine = true ∧
      (c = .dkRise ∨ c = .dkFall → (s.drop d).profile.clocking = .device) ∧ (s.drop d).line.state = x := by
  refine ⟨withDrop { receivingDrop .camera .device with line := { Line.atPowerOn with state := x } }, 0, ?_⟩
  rcases h with rfl | rfl <;> cases c <;> decide +kernel

theorem witness_LineArbiterStart_frame : ∃ (s : State) (d : DropId) (f : Frame), s.inReset = false ∧
    (s.drop d).onLine = true ∧ (s.drop d).line.transmission = none ∧ (s.drop d).line.wait = false ∧
    (s.drop d).line.slot = some f :=
  ⟨withDrop { activeDrop .camera with line := { (activeDrop .camera).line with slot := some waitingFrame } }, 0,
    waitingFrame, by decide +kernel⟩

/-- An EDIT drop with a copy at the head of its queue. -/
def copying : State :=
  holding (withDrop { activeDrop .edit with line := { (activeDrop .edit).line with copyQueue := [9] } })
    [heldClap 9 false 1#8]

theorem witness_LineArbiterStart_copy : ∃ (s : State) (d : DropId) (n : Nat) (rest : List Nat) (h : Held),
    s.inReset = false ∧ (s.drop d).onLine = true ∧ (s.drop d).line.transmission = none ∧ (s.drop d).line.wait = false ∧
    (s.drop d).line.slot = none ∧ (s.drop d).line.copyQueue = n :: rest ∧ s.findItem n = some h :=
  ⟨copying, 0, 9, [], heldClap 9 false 1#8, by decide +kernel⟩

theorem witness_LineArbiterStart_nothing : ∃ (s : State) (d : DropId), s.inReset = false ∧ (s.drop d).onLine = true ∧
    (s.drop d).line.transmission = none ∧ (s.drop d).line.wait = false ∧ (s.drop d).line.slot = none ∧
    (s.drop d).line.copyQueue = [] :=
  ⟨withDrop (activeDrop .camera), 0, by decide +kernel⟩

theorem witness_DropTransmissionEnds : (∃ (s : State) (d : DropId) (words : List Word), s.inReset = false ∧
      (s.drop d).line.transmission = some (.frame words))
    ∧ (∃ (s : State) (d : DropId) (n : Nat) (words : List Word), s.inReset = false ∧
      (s.drop d).line.transmission = some (.copy n words) ∧ (s.drop d).line.copyQueue = [n])
    ∧ ∃ (s : State) (d : DropId), s.inReset = false ∧ (s.drop d).profile.clocking = .device ∧
      (s.drop d).line.transmission ≠ none ∧ 48 ≤ (s.drop d).line.transmitStall :=
  ⟨⟨withDrop { activeDrop .camera with line := { (activeDrop .camera).line with transmission := some (.frame []) } }, 0,
      [], by decide +kernel⟩,
    ⟨copying.updLine 0 (fun l => { l with transmission := some (.copy 9 []) }), 0, 9, [], by decide +kernel⟩,
    ⟨withDrop { receivingDrop .camera .device with
      line := { (activeDrop .camera).line with transmission := some (.frame []), transmitStall := 48 } }, 0,
      by decide +kernel⟩⟩

theorem witness_DropLawKept : ∃ s t : State, s.DropLaw ∧ step s = .next t ∧ (s.drop 0).line.state = .active := by
  refine ⟨{ withDrop (activeDrop .edit) with pending := [.dropBoundaryEvent 0] }, _, fun d => ?_, rfl, rfl⟩
  constructor <;> revert d <;> decide +kernel

/-- A take ROLLING since now, at an epoch. -/
theorem witness_DropLawKept_rolled : ∃ s t : State, s.RolledByNow ∧ s.TimeBounded ∧
    s.clock.time + 1099511627776 < 2 ^ 64 ∧ step s = .next t ∧ (s.drop 0).take.state = .rolling ∧
    (s.drop 0).take.rollTime = s.clock.time := by
  refine ⟨{ rolling0.updTake 0 (fun t => { t with rollTime := rolling0.clock.time }) with pending := [.epoch] }, _,
    fun d => ?_, ?_, ?_, rfl, rfl, rfl⟩
  · revert d; decide +kernel
  · constructor <;> decide +kernel
  · decide +kernel

/-- The first register served and the last, each with the others empty. -/
theorem witness_IntakeServesInTurn (n : Nat) (h : n = 1 ∨ n = 8) : ∃ (s : State) (d : DropId) (r : Received),
    s.inReset = false ∧ s.intake.inProcess = none ∧ 1 ≤ n ∧ n ≤ 8 ∧ d.val = (s.intake.lastServed.val + n) % 8 ∧
    (s.drop d).line.holding = some r ∧
    ∀ e : DropId, ∀ m, 1 ≤ m → m < n → e.val = (s.intake.lastServed.val + m) % 8 → (s.drop e).line.holding = none := by
  let r : Received := { words := [], time := 0, stepCount := 0 }
  rcases h with rfl | rfl
  · exact ⟨State.reset.updLine 0 (fun l => { l with holding := some r }), 0, r, by decide +kernel, by decide +kernel,
      by decide, by decide, by decide +kernel, by decide +kernel, fun e m h1 h2 => by omega⟩
  · refine ⟨State.reset.updLine 7 (fun l => { l with holding := some r }), 7, r, by decide +kernel, by decide +kernel,
      by decide, by decide, by decide +kernel, by decide +kernel, fun e m h1 h2 h3 => ?_⟩
    have h3' : e.val = (7 + m) % 8 := h3
    have he : e ≠ 7 := fun x => by subst x; have : (7 : Nat) = (7 + m) % 8 := h3'; omega
    clear h1 h2 h3 h3'
    revert e
    decide +kernel

theorem witness_IntakeTurnsAway : (∃ (s : State) (d : DropId) (r : Received), s.inReset = false ∧
      s.intake.inProcess = some { source := d, packet := r } ∧ s.readStamp d r.words = none)
    ∧ ∃ (s : State) (d : DropId) (r : Received) (x : DeviceStamp), s.inReset = false ∧
      s.intake.inProcess = some { source := d, packet := r } ∧ s.readStamp d r.words = some x ∧
      (s.drop d).profile.accepts x.kind = false :=
  ⟨⟨inIntake camera0 (stampWords 6 0 5 none), 0, ⟨stampWords 6 0 5 none, 1200999900000, 3⟩, by decide +kernel⟩,
    ⟨inIntake camera0 (stampWords 3 0 5 none), 0, ⟨stampWords 3 0 5 none, 1200999900000, 3⟩,
      ⟨.clap, .frame 5, 0, none⟩, by decide +kernel⟩⟩

/-- A stamp at the edge of the window, and a label that drop-frame counting leaves out. -/
theorem witness_StampTimeJudged : (∃ (s : State) (x : DeviceStamp) (r : Received) (n : Nat), x.moment = .frame n ∧
      r.stepCount = s.clock.stepCount ∧ n = 149987)
    ∧ ∃ (s : State) (d : DropId) (x : DeviceStamp) (r : Received) (l : Label), x.moment = .label l ∧
      (s.drop d).profile.dropFrame = true ∧ (s.drop d).profile.rate.base = 30 ∧
      (s.convert d x r).labelClamped = true ∧ r.stepCount ≠ s.clock.stepCount :=
  ⟨⟨camera0, ⟨.roll, .frame 149987, 0, none⟩, ⟨[], 1200999900000, 3⟩, 149987, by decide +kernel⟩,
    ⟨camera0.updProfile 0 (fun p => { p with rate := .fps30000over1001, dropFrame := true }), 0,
      ⟨.roll, .label ⟨0, 1, 0, 0⟩, 0, none⟩, ⟨[], 0, 0⟩, ⟨0, 1, 0, 0⟩, by decide +kernel⟩⟩

theorem accepted {s : State} {d : DropId} {r : Received} {x : DeviceStamp} (h : s.inReset = false ∧
    s.intake.inProcess = some { source := d, packet := r } ∧ s.readStamp d r.words = some x ∧
    (s.drop d).profile.accepts x.kind = true) : s.Accepted d r x :=
  ⟨h.1, h.2.1, h.2.2.1, h.2.2.2⟩

/-- A META of scene 7. -/
def metaWords : List Word := dropPacket stampCode ([wordOf (5 * 4096)] ++ natToWords 3 149975 ++ [7#16])

theorem witness_StampTimeJudged_items : (∃ (s : State) (d : DropId) (r : Received) (x : DeviceStamp) (code : Nat),
      s.Accepted d r x ∧ x.kind = .mark code ∧ TakesLocal s d .stamp)
    ∧ ∃ (s : State) (d : DropId) (r : Received) (x : DeviceStamp), s.Accepted d r x ∧ x.kind = .metaScene 7 ∧
      TakesLocal s d .stamp ∧ (s.drop d).take.state = .rolling :=
  ⟨⟨inIntake camera0 (stampWords 4 0 149975 none), 0, ⟨stampWords 4 0 149975 none, 1200999900000, 3⟩,
      ⟨.mark 0, .frame 149975, 0, none⟩, 0, accepted (by decide +kernel), rfl, takesItem (by decide +kernel)⟩,
    ⟨inIntake rolling0 metaWords, 0, ⟨metaWords, 1200999900000, 3⟩, ⟨.metaScene 7, .frame 149975, 0, none⟩,
      accepted (by decide +kernel), rfl, takesItem (by decide +kernel), rfl⟩⟩

/-- A ROLL of the largest take number, on an IDLE take and on a ROLLING one. -/
theorem witness_RollOpensTake : (∃ (s : State) (d : DropId) (r : Received) (x : DeviceStamp), s.Accepted d r x ∧
      x.kind = .roll ∧ (s.drop d).take.state = .idle ∧ TakesLocal s d .stamp)
    ∧ ∃ (s : State) (d : DropId) (r : Received) (x : DeviceStamp), s.Accepted d r x ∧ x.kind = .roll ∧
      (s.drop d).take.state = .rolling ∧ (s.region (dropRegion d)).RoomFor 2 ∧ Routed s .stamp ∧ s.NoneStaleAfter 1 ∧
      s.NoneStaleAfter 2 :=
  ⟨⟨inIntake camera0 (stampWords 1 0 149975 (some 65535)), 0, ⟨stampWords 1 0 149975 (some 65535), 1200999900000, 3⟩,
      ⟨.roll, .frame 149975, 0, some 65535⟩, accepted (by decide +kernel), rfl, rfl, takesItem (by decide +kernel)⟩,
    ⟨inIntake rolling0 (stampWords 1 0 149975 none), 0, ⟨stampWords 1 0 149975 none, 1200999900000, 3⟩,
      ⟨.roll, .frame 149975, 0, none⟩, accepted (by decide +kernel), rfl, rfl, by unfold Region.RoomFor; decide +kernel,
      Or.inl (by decide +kernel), nothingStale (by decide +kernel) 1, nothingStale (by decide +kernel) 2⟩⟩

theorem witness_CutClosesTake (x : TakeState) : ∃ (s : State) (d : DropId) (r : Received) (y : DeviceStamp),
    s.Accepted d r y ∧ y.kind = .cut ∧ TakesLocal s d .stamp ∧ (s.drop d).take.state = x := by
  refine ⟨inIntake (rolling0.updTake 0 (fun t => { t with state := x })) (stampWords 2 0 149975 none), 0,
    ⟨stampWords 2 0 149975 none, 1200999900000, 3⟩, ⟨.cut, .frame 149975, 0, none⟩, accepted ?_, rfl, takesItem ?_, rfl⟩
  all_goals cases x <;> decide +kernel

/-- With camera 0's take ROLLING, and with it IDLE and so without participants. -/
theorem witness_ClapBuildsSync (x : TakeState) : ∃ (s : State) (d : DropId) (r : Received) (y : DeviceStamp),
    s.Accepted d r y ∧ y.kind = .clap ∧ (s.participants (s.convert d y r).judged.time = [] ↔ x = .idle) ∧
    (s.region (dropRegion d)).RoomFor 2 ∧ Routed s .stamp ∧ Routed s .sync ∧ s.NoneStaleAfter 1 ∧
    s.NoneStaleAfter 2 := by
  refine ⟨inIntake (rolling0.updTake 0 (fun t => { t with state := x })) (stampWords 3 64 149975 none), 0,
    ⟨stampWords 3 64 149975 none, 1200999900000, 3⟩, ⟨.clap, .frame 149975, 64, none⟩, accepted ?_, rfl, ?_, ?_,
    Or.inl ?_, Or.inl ?_, nothingStale ?_ 1, nothingStale ?_ 2⟩
  case refine_3 => unfold Region.RoomFor; cases x <;> decide +kernel
  all_goals cases x <;> decide +kernel

/-- A ROLL whose region is unassigned, as every drop's is at power-on, and one whose region is full. -/
theorem witness_RollOpensTake_turnedAway (full : Bool) : ∃ (s : State) (d : DropId) (r : Received) (x : DeviceStamp),
    s.Accepted d r x ∧ x.kind = .roll ∧ (s.region (dropRegion d)).assigned = full ∧
    (full = true → (s.region (dropRegion d)).size ≤ (s.region (dropRegion d)).items.length) ∧ Routed s .stamp ∧
    s.NoneStaleAfter 1 := by
  refine ⟨inIntake (camera0.updRegion 0 (fun r => { r with
      assigned := full, size := 1, items := if full then [heldClap 0 true 1#8] else [] })) (stampWords 1 0 149975 none), 0,
    ⟨stampWords 1 0 149975 none, 1200999900000, 3⟩, ⟨.roll, .frame 149975, 0, none⟩, accepted ?_, rfl, ?_, ?_, Or.inl ?_,
    ?_⟩
  all_goals (try unfold State.NoneStaleAfter); cases full <;> decide +kernel

/-- One region for each clause: unassigned, assigned with room for the last item, and full. -/
theorem witness_ItemAdmission : (∃ (s : State) (i : RegionId), (s.region i).assigned = false)
    ∧ (∃ (s : State) (i : RegionId) (h : Held), (s.region i).assigned = true ∧ h.up = false ∧ h.drops = 0#8)
    ∧ ∃ (s : State) (i : RegionId) (h : Held), (s.region i).RoomFor 1 ∧ (s.region i).items.length = 63 ∧ h.up = true :=
  ⟨⟨State.reset, 0, by decide +kernel⟩, ⟨State.reset, passRegion, heldClap 1 false 0#8, by decide +kernel⟩,
    ⟨holding State.reset (List.replicate 63 (heldClap 1 true 0#8)), passRegion, heldClap 2 true 0#8,
      by unfold Region.RoomFor; decide +kernel⟩⟩

/-- A full drop region and a full pass region under REFUSE. -/
theorem witness_RefusingRegionTurnsAway : (∃ (s : State) (d : DropId) (h : Held),
      (s.region (dropRegion d)).assigned = true ∧ h.up = true ∧
      (s.region (dropRegion d)).size ≤ (s.region (dropRegion d)).items.length ∧
      (s.region (dropRegion d)).policy = .refuse)
    ∧ ∃ (s : State) (h : Held), (s.region passRegion).assigned = true ∧ h.drops ≠ 0#8 ∧
      (s.region passRegion).size ≤ (s.region passRegion).items.length ∧ (s.region passRegion).policy = .refuse :=
  ⟨⟨State.reset.updRegion 0 (fun r => { r with assigned := true, items := List.replicate 8 (heldClap 1 true 0#8) }), 0,
      heldClap 2 true 0#8, by decide +kernel⟩,
    ⟨State.reset.updRegion passRegion (fun r => { r with
        policy := .refuse, items := List.replicate 64 (heldClap 1 true 0#8) }), heldClap 2 false 1#8,
      by decide +kernel⟩⟩

/-- A full region under REPLACE_OLDEST of eight items, `flying` of them in an EDIT drop's copy queue, side A sending the
last one. -/
def fullRegion (flying : List Nat) : State :=
  let s := (withDrop { activeDrop .edit with line := { (activeDrop .edit).line with copyQueue := flying } }).updRegion 1
    (fun r => { r with
      assigned := true, policy := .replaceOldest,
      items := (List.range 8).map (fun i => heldClap (700 + i) true 1#8) })
  s.setTrunk { s.trunk with transmissionA := some (.item 707 []) }

/-- With the two oldest items in flight, and with all of them. -/
theorem witness_RefusingRegionTurnsAway_replace : (∃ (s : State) (r : Region) (before after : List Held) (x : Held),
      r = s.region 1 ∧ r.assigned = true ∧ r.size ≤ r.items.length ∧ r.policy = .replaceOldest ∧
      r.items = before ++ x :: after ∧ (∀ y ∈ before, s.InFlight y.serial) ∧ ¬ s.InFlight x.serial ∧ before.length = 2)
    ∧ ∃ (s : State) (r : Region), r = s.region 1 ∧ r.assigned = true ∧ r.size ≤ r.items.length ∧
      r.policy = .replaceOldest ∧ ∀ x ∈ r.items, s.InFlight x.serial := by
  refine ⟨⟨fullRegion [700, 701], _, [heldClap 700 true 1#8, heldClap 701 true 1#8],
      (List.range 5).map (fun i => heldClap (703 + i) true 1#8), heldClap 702 true 1#8, rfl, rfl, by decide +kernel, rfl,
      by decide +kernel, fun y hy => Or.inl ⟨0, ?_⟩, fun h => ?_, rfl⟩,
    ⟨fullRegion [700, 701, 702, 703, 704, 705, 706], _, rfl, rfl, by decide +kernel, rfl, fun y hy => ?_⟩⟩
  · revert y; decide +kernel
  · rcases h with ⟨d, hd⟩ | ⟨words, hw⟩
    · revert d; decide +kernel
    · exact absurd (show SideATransmission.item 707 [] = .item 702 words from Option.some.inj hw) (by simp)
  · by_cases h : y.serial = 707
    · exact Or.inr ⟨[], by rw [h]; rfl⟩
    · exact Or.inl ⟨0, by revert y; decide +kernel⟩

/-- Two items, one of them of the age at which it is stale and in a copy queue, and the other one draw short of it. -/
theorem witness_StaleItemsDiscarded : ∃ s : State, s.inReset = false ∧ (s.heldItems.map Held.serial).Nodup ∧
    s.heldItems.map s.age = [2147483648, 2147483647] ∧ (s.drop 0).line.copyQueue = [9] :=
  ⟨(holding copying [heldClap 9 false 1#8, heldClap 10 true 0#8]).setStore
    { (holding copying [heldClap 9 false 1#8, heldClap 10 true 0#8]).store with serial := 2147483657 },
    by decide +kernel⟩

theorem witness_ConservationKept : ∃ s t : State, s.Conserved ∧ step s = .next t ∧
    (s.region passRegion).items.length = 1 := by
  refine ⟨{ copying.updRegion passRegion (fun r => { r with accepted := 1 }) with pending := [.itemStale] }, _,
    fun i => ?_, rfl, by decide +kernel⟩
  constructor <;> revert i <;> decide +kernel

theorem witness_RegionsFitKept : ∃ s t : State, s.RegionsFit ∧ step s = .next t ∧
    (s.region passRegion).items.length = 1 := by
  have only : ∀ i, (copying.region i).assigned = true → i = passRegion := by decide +kernel
  have pass : (copying.region passRegion).base = 448 ∧ (copying.region passRegion).size = 64 := by decide +kernel
  refine ⟨{ copying with pending := [.itemStale] }, _, ⟨fun i j slot hij hi hj => ?_, fun i slot hi => ?_, ?_⟩, rfl,
    by decide +kernel⟩
  · exact hij ((only i hi.1).trans (only j hj.1).symm)
  · have h : i = passRegion := only i hi.1
    subst h
    have h2 : slot < (copying.region passRegion).base + (copying.region passRegion).size := hi.2.2
    omega
  · decide +kernel

theorem witness_DeliveryLawKept : ∃ s t : State, s.DeliveryLaw ∧ step s = .next t ∧
    (s.drop 0).line.copyQueue = [9] := by
  refine ⟨{ copying.setStore { copying.store with serial := 9 } with pending := [.lineArbiterStart 0] }, _, ?_, rfl,
    by decide +kernel⟩
  constructor <;> decide +kernel

theorem witness_TrunkReceiver (side : Side) (c : Receiver) : ∃ s : State, s.inReset = false ∧
    (s.port side).receiver.condition = c ∧ s.clock.time + 511 * 125 / 16 < 2 ^ 64 :=
  ⟨(State.reset.setReceiver side c).setClock { State.reset.clock with time := 18446744073709547623 }, by
    cases side <;> cases c <;> decide +kernel⟩

/-- A packet of a side's receiver. -/
theorem packetIn (side : Side) (words : List Word) (h : trunkComplete words = true) :
    (receivingAt State.reset side 0).PacketIn side words := by
  cases side <;> exact ⟨rfl, rfl, h⟩

/-- A GENERAL packet without payload, with its check word right or wrong, and one of the unused kind 0. -/
def generalWords : List Word := trunkPacket 63 4 .general 0 0 []
def wrongCheck : List Word := generalWords.dropLast ++ [0#16]
def unusedKind : List Word := [0xFC40#16, 0#16, 0#16] ++ [checkOf [0xFC40#16, 0#16, 0#16]]

theorem witness_TrunkPacketTurnedAway (side : Side) :
    (∃ s : State, s.PacketIn side wrongCheck ∧ checkCorrect wrongCheck = false)
    ∧ (∃ s : State, s.PacketIn side unusedKind ∧ checkCorrect unusedKind = true ∧ trunkHeaderOk unusedKind = false)
    ∧ (∃ (s : State) (words : List Word) (k : TrunkKind), s.PacketIn side words ∧ checkCorrect words = true ∧
        trunkHeaderOk words = true ∧ trunkKind words = some k ∧
        ((side = .a ∧ k ∈ [.stamp, .sync, .reply, .report]) ∨ (side = .b ∧ k = .time)))
    ∧ ∃ (s : State) (words : List Word), s.PacketIn .a words ∧ checkCorrect words = true ∧
        trunkHeaderOk words = true ∧ trunkKind words = some .time ∧ trunkHop words = 15 := by
  refine ⟨⟨_, packetIn side wrongCheck (by decide +kernel), by decide +kernel⟩,
    ⟨_, packetIn side unusedKind (by decide +kernel), by decide +kernel⟩, ?_,
    ⟨_, timeWords 0 0 15, packetIn .a _ (by decide +kernel), by decide +kernel⟩⟩
  cases side
  · exact ⟨_, trunkPacket 63 4 .reply 0 0 [0, 0], .reply, packetIn .a _ (by decide +kernel), by decide +kernel⟩
  · exact ⟨_, timeWords 0 0 0, .time, packetIn .b _ (by decide +kernel), by decide +kernel⟩

/-- FIFOs one short of full, and full. -/
theorem witness_TrunkPacketsTravelOn (side : Side) (n : Nat) (_ : n = 7 ∨ n = 8) :
    ∃ s : State, s.PacketIn side generalWords ∧ checkCorrect generalWords = true ∧ trunkHeaderOk generalWords = true ∧
      trunkKind generalWords = some .general ∧ s.trunk.upFifo.length = n ∧ s.trunk.downFifo.length = n := by
  have hc : trunkComplete generalWords = true := by decide +kernel
  refine ⟨(receivingAt State.reset side 0).setTrunk { (receivingAt State.reset side 0).trunk with
    upFifo := List.replicate n [], downFifo := List.replicate n [] }, ?_, by decide +kernel, by decide +kernel,
    by decide +kernel, List.length_replicate, List.length_replicate⟩
  cases side <;> exact ⟨rfl, rfl, hc⟩

/-- Every destination: broadcast, this part's station 5, the controller's 63 and another station. -/
theorem witness_ManagementPacketsByStation (side : Side) (dest : Nat) (h : dest ∈ [0, 5, 6, 63]) (full : Bool) :
    ∃ (s : State) (words : List Word), s.PacketIn side words ∧ checkCorrect words = true ∧ trunkHeaderOk words = true ∧
      trunkKind words = some .mgmt ∧ s.trunk.upFifo.length = (if full then 8 else 7) ∧
      s.trunk.downFifo.length = (if full then 8 else 7) ∧ trunkDest words = dest ∧ s.trunk.station = 5#6 := by
  have hc : trunkComplete (mgmtWords dest 2 10 0 []) = true := by
    revert dest; decide +kernel
  refine ⟨(receivingAt State.reset side 0).setTrunk { (receivingAt State.reset side 0).trunk with
      station := 5#6, upFifo := List.replicate (if full then 8 else 7) [],
      downFifo := List.replicate (if full then 8 else 7) [] }, mgmtWords dest 2 10 0 [], ?_, ?_⟩
  · cases side <;> exact ⟨rfl, rfl, hc⟩
  · revert dest; cases side <;> cases full <;> decide +kernel

/-- A foreign STAMP of station 4, with a route entry that names UP or not and a copy mask. -/
def foreignAt (up : Bool) (m : DropMask) : State :=
  let s := receivingAt (withDrop (activeDrop .edit)) .b 0
  s.setTrunk { s.trunk with
    routes := s.trunk.routes.set 0 { valid := true, kind := 0#2, up := up, base := 4, size := 1, copyMask := m } }

/-- With room in the up FIFO or none. -/
theorem witness_ForeignItemsByRoute (up full : Bool) (m : DropMask) (h : m = 0#8 ∨ m = 1#8) :
    ∃ (s : State) (words : List Word) (item : ItemBody), s.PacketIn .b words ∧ checkCorrect words = true ∧
      trunkHeaderOk words = true ∧ trunkKind words = some .stamp ∧
      (StampItem.ofPayload (trunkPayload words)).map ItemBody.stamp = some item ∧
      s.lookup .stamp (trunkSource words) = (up, m) ∧ s.trunk.upFifo.length = (if full then 8 else 7) ∧
      s.TakesItem passRegion false 1#8 := by
  have hc : trunkComplete (trunkPacket 63 4 .stamp 0 0 ((heldClap 1 true 0#8).item.payload 1)) = true := by
    decide +kernel
  refine ⟨(foreignAt up m).setTrunk { (foreignAt up m).trunk with upFifo := List.replicate (if full then 8 else 7) [] },
    trunkPacket 63 4 .stamp 0 0 ((heldClap 1 true 0#8).item.payload 1), (heldClap 1 true 0#8).item, ⟨rfl, rfl, hc⟩,
    by decide +kernel, by decide +kernel, rfl, by decide +kernel, ?_, ?_, ?_, Or.inr (by decide), nothingStale ?_ 1⟩
  case refine_3 => unfold Region.RoomFor; rcases h with rfl | rfl <;> cases up <;> cases full <;> decide +kernel
  all_goals rcases h with rfl | rfl <;> cases up <;> cases full <;> decide +kernel

/-- A state with something in each of side A's and side B's sources. -/
def busyTrunk : State :=
  let s := holding State.reset [heldClap 9 true 0#8, heldClap 10 true 0#8]
  (s.setStore { s.store with serial := 10 }).setTrunk { s.trunk with
    sideA := { s.trunk.sideA with replies := [[1#16]] }, sideB := { s.trunk.sideB with replies := [[2#16]] },
    upFifo := [[3#16]], downFifo := [[4#16]], reportSlot := some (s.reportFor .refLost),
    timeSlot := some { rate := .fps24, hop := 15, quality := .locked } }

/-- The sources of side A one after another. -/
theorem witness_SideAServesInOrder :
    (∃ (s : State) (w : List Word) (rest : List (List Word)), s.inReset = false ∧ s.trunk.transmissionA = none ∧
      s.trunk.sideA.replies = w :: rest)
    ∧ (∃ (s : State) (r : Report), s.inReset = false ∧ s.trunk.transmissionA = none ∧ s.trunk.sideA.replies = [] ∧
      s.trunk.reportSlot = some r)
    ∧ (∃ (s : State) (w : List Word) (rest : List (List Word)), s.inReset = false ∧ s.trunk.transmissionA = none ∧
      s.trunk.sideA.replies = [] ∧ s.trunk.reportSlot = none ∧ s.trunk.upFifo = w :: rest)
    ∧ (∃ (s : State) (h : Held), s.inReset = false ∧ s.trunk.transmissionA = none ∧ h ∈ s.heldItems ∧
      s.trunk.sideA.replies = [] ∧ s.trunk.reportSlot = none ∧ s.trunk.upFifo = [] ∧ h.up = true ∧
      (s.heldItems.map s.age).Nodup ∧ (∀ x ∈ s.heldItems, x.up = true → s.age x ≤ s.age h) ∧ s.heldItems.length = 2)
    ∧ ∃ s : State, s.inReset = false ∧ s.trunk.transmissionA = none ∧ s.trunk.sideA.replies = [] ∧
      s.trunk.reportSlot = none ∧ s.trunk.upFifo = [] ∧ ∀ h ∈ s.heldItems, h.up = false :=
  ⟨⟨busyTrunk, [1#16], [], by decide +kernel⟩,
    ⟨busyTrunk.setTrunk { busyTrunk.trunk with sideA := Port.atPowerOn }, State.reset.reportFor .refLost,
      by decide +kernel⟩,
    ⟨busyTrunk.setTrunk { busyTrunk.trunk with sideA := Port.atPowerOn, reportSlot := none }, [3#16], [],
      by decide +kernel⟩,
    ⟨busyTrunk.setTrunk { busyTrunk.trunk with sideA := Port.atPowerOn, reportSlot := none, upFifo := [] },
      heldClap 9 true 0#8, by decide +kernel⟩,
    ⟨State.reset, by decide +kernel⟩⟩

theorem witness_SideACompletes : ∃ (s : State) (n : Nat) (words : List Word), s.inReset = false ∧
    s.trunk.transmissionA = some (.item n words) ∧ s.heldItems.any (fun h => h.serial == n) = true :=
  ⟨busyTrunk.setTrunk { busyTrunk.trunk with transmissionA := some (.item 9 []) }, 9, [], by decide +kernel⟩

theorem witness_SideBServesInOrder :
    (∃ (s : State) (x : TimeSlot), s.inReset = false ∧ s.trunk.transmissionB = none ∧ s.trunk.timeSlot = some x ∧
      s.clock.time + 511 * 125 / 16 < 2 ^ 64)
    ∧ (∃ (s : State) (w : List Word) (rest : List (List Word)), s.inReset = false ∧ s.trunk.transmissionB = none ∧
      s.trunk.timeSlot = none ∧ s.trunk.sideB.replies = w :: rest)
    ∧ (∃ (s : State) (w : List Word) (rest : List (List Word)), s.inReset = false ∧ s.trunk.transmissionB = none ∧
      s.trunk.timeSlot = none ∧ s.trunk.sideB.replies = [] ∧ s.trunk.downFifo = w :: rest)
    ∧ ∃ s : State, s.inReset = false ∧ s.trunk.transmissionB ≠ none :=
  ⟨⟨busyTrunk, { rate := .fps24, hop := 15, quality := .locked }, by decide +kernel⟩,
    ⟨busyTrunk.setTrunk { busyTrunk.trunk with timeSlot := none }, [2#16], [], by decide +kernel⟩,
    ⟨busyTrunk.setTrunk { busyTrunk.trunk with timeSlot := none, sideB := Port.atPowerOn }, [4#16], [],
      by decide +kernel⟩,
    ⟨busyTrunk.setTrunk { busyTrunk.trunk with transmissionB := some (.downFifo []) }, by decide +kernel⟩⟩

theorem witness_WithinPlacesKept : ∃ s t : State, s.WithinPlaces ∧ step s = .next t ∧ s.trunk.upFifo ≠ [] :=
  ⟨{ busyTrunk with pending := [.sideATransmitStart] }, _,
    by constructor <;> decide +kernel, rfl, by decide +kernel⟩

theorem witness_RoutesApartKept : ∃ s t : State, s.RoutesApart ∧ step s = .next t ∧ (s.route 0).valid = true := by
  have off : ∀ i, i ≠ 0 → ((foreignAt true 1#8).route i).valid = false := by decide +kernel
  have covers (i : RouteId) (hi : i ≠ 0) (k : RouteKind) (station : Nat) :
      ((foreignAt true 1#8).route i).covers k station = false := by simp [Route.covers, off i hi]
  refine ⟨{ foreignAt true 1#8 with pending := [.epoch] }, _, ⟨fun i j k station hij hi => ?_, by decide +kernel⟩, rfl,
    by decide +kernel⟩
  refine covers j (fun hj => ?_) k station
  subst hj
  have hc := covers i hij k station
  have hi' : ((foreignAt true 1#8).route i).covers k station = true := hi
  rw [hc] at hi'
  cases hi'

/-- A reply queue with one place left. -/
def threeReplies : State := State.reset.updPort .a (fun p => { p with replies := [[], [], []] })

theorem witness_WaitingRepliesEnter : (∃ (s : State) (r : Reply), s.inReset = false ∧ s.mgmt.held = some r ∧
      (s.port r.side).replies.length < 4 ∧ ∀ x ∈ s.mgmt.trimReplies, x.side ≠ r.side)
    ∧ ∃ (s : State) (r : Reply) (before after : List Reply), s.inReset = false ∧
      s.mgmt.trimReplies = before ++ r :: after ∧ (∀ x ∈ before, x.side ≠ r.side) ∧
      (s.port r.side).replies.length < 4 :=
  ⟨⟨threeReplies.setMgmt { threeReplies.mgmt with
      held := some { side := .a, words := [] }, trimReplies := [{ side := .b, words := [] }] },
      { side := .a, words := [] }, by decide +kernel⟩,
    ⟨threeReplies.setMgmt { threeReplies.mgmt with
      trimReplies := [{ side := .b, words := [] }, { side := .a, words := [1#16] }, { side := .a, words := [] }] },
      { side := .a, words := [1#16] }, [{ side := .b, words := [] }], [{ side := .a, words := [] }], by decide +kernel⟩⟩

/-- A request at the head of the queue. -/
theorem asked (s : State) (typeCode code argument : Nat) (record : List Word) (k : RequestKind) (h : s.inReset = false)
    (h' : s.mgmt.held = none) (hk : (requestOf typeCode code argument record).kind = k) :
    (asking s typeCode code argument record).Asked k (requestOf typeCode code argument record) [] :=
  ⟨h, h', rfl, hk⟩

/-- A trim write in flight that owes its reply on side A, where one place is left. -/
def writing : State := threeReplies.setTrim { value := 0, write := some ⟨1, some ⟨.a, 0, 0#16, 0#16⟩⟩ }

theorem witness_TrimIsWritten : (∃ (s : State) (r : Request) (rest : List Request),
      s.Asked (.control .storeTrim) r rest ∧ s.trim.write = none)
    ∧ (∃ (s : State) (r : Request) (rest : List Request), s.Asked (.control .storeTrim) r rest ∧ s.trim.write ≠ none)
    ∧ (∃ (s : State) (w : TrimWrite), s.inReset = false ∧ s.trim.write = some w ∧ w.replyTo = none)
    ∧ (∃ (s : State) (w : TrimWrite) (q : ReplyTo), s.inReset = false ∧ s.trim.write = some w ∧ w.replyTo = some q ∧
      (s.port q.side).replies.length < 4 ∧ s.trimWaits q.side = false ∧ ¬ s.ResetNext)
    ∧ (∃ (s : State) (w : TrimWrite) (q : ReplyTo), s.inReset = false ∧ s.trim.write = some w ∧ w.replyTo = some q ∧
      (s.port q.side).replies.length < 4 ∧ s.trimWaits q.side = false ∧ s.ResetNext)
    ∧ ∃ (s : State) (w : TrimWrite) (q : ReplyTo), s.inReset = false ∧ s.trim.write = some w ∧ w.replyTo = some q ∧
      (s.port q.side).replies.length = 4 :=
  ⟨⟨_, _, [], asked State.reset 3 8 0 [] _ rfl rfl (by decide +kernel), by decide +kernel⟩,
    ⟨_, _, [], asked (State.reset.setTrim { value := 0, write := some ⟨1, none⟩ }) 3 8 0 [] _ rfl rfl (by decide +kernel),
      by decide +kernel⟩,
    ⟨State.reset.setTrim { value := 0, write := some ⟨1, none⟩ }, ⟨1, none⟩, by decide +kernel⟩,
    ⟨writing, ⟨1, some ⟨.a, 0, 0#16, 0#16⟩⟩, ⟨.a, 0, 0#16, 0#16⟩, rfl, rfl, rfl, by decide +kernel, rfl,
      fun ⟨_, _, _, h, _⟩ => nomatch h⟩,
    ⟨asking writing 3 2 0 [], ⟨1, some ⟨.a, 0, 0#16, 0#16⟩⟩, ⟨.a, 0, 0#16, 0#16⟩, rfl, rfl, rfl, by decide +kernel, rfl,
      rfl, _, _, rfl, by decide +kernel⟩,
    ⟨(State.reset.updPort .a (fun p => { p with replies := List.replicate 4 [] })).setTrim
        { value := 0, write := some ⟨1, some ⟨.a, 0, 0#16, 0#16⟩⟩ }, ⟨1, some ⟨.a, 0, 0#16, 0#16⟩⟩,
      ⟨.a, 0, 0#16, 0#16⟩, by decide +kernel⟩⟩

/-- Every table at its last index and at the first it does not have. -/
theorem witness_ReadsAnswerRecord (tb : Table) (past : Bool) : ∃ (s : State) (r : Request) (rest : List Request),
    s.Asked (.read tb) r rest ∧ r.index = (if past then tb.indexes else tb.indexes - 1) := by
  cases tb
  · exact ⟨_, _, [], asked State.reset 2 1 (if past then 1 else 0) [] _ rfl rfl (by cases past <;> decide +kernel),
      by cases past <;> decide +kernel⟩
  · exact ⟨_, _, [], asked State.reset 2 2 (if past then 8 else 7) [] _ rfl rfl (by cases past <;> decide +kernel),
      by cases past <;> decide +kernel⟩
  · exact ⟨_, _, [], asked State.reset 2 3 (if past then 9 else 8) [] _ rfl rfl (by cases past <;> decide +kernel),
      by cases past <;> decide +kernel⟩
  · exact ⟨_, _, [], asked State.reset 2 4 (if past then 32 else 31) [] _ rfl rfl (by cases past <;> decide +kernel),
      by cases past <;> decide +kernel⟩
  · exact ⟨_, _, [], asked State.reset 2 5 (if past then 64 else 63) [] _ rfl rfl (by cases past <;> decide +kernel),
      by cases past <;> decide +kernel⟩
  · exact ⟨_, _, [], asked State.reset 2 6 (if past then 1 else 0) [] _ rfl rfl (by cases past <;> decide +kernel),
      by cases past <;> decide +kernel⟩
  · exact ⟨_, _, [], asked State.reset 2 7 (if past then 8 else 7) [] _ rfl rfl (by cases past <;> decide +kernel),
      by cases past <;> decide +kernel⟩
  · exact ⟨_, _, [], asked State.reset 2 8 (if past then 9 else 8) [] _ rfl rfl (by cases past <;> decide +kernel),
      by cases past <;> decide +kernel⟩
  · exact ⟨_, _, [], asked State.reset 2 9 (if past then 1 else 0) [] _ rfl rfl (by cases past <;> decide +kernel),
      by cases past <;> decide +kernel⟩
  · exact ⟨_, _, [], asked State.reset 2 10 (if past then 1 else 0) [] _ rfl rfl (by cases past <;> decide +kernel),
      by cases past <;> decide +kernel⟩

theorem witness_RequestsRefused : (∃ (s : State) (r : Request) (rest : List Request), s.Asked .unknown r rest)
    ∧ (∃ (s : State) (r : Request) (rest : List Request), s.Asked (.load .route) r rest ∧ r.index = 32)
    ∧ (∃ (s : State) (r : Request) (rest : List Request), s.Asked (.load .userBits) r rest ∧
        some r.record.length ≠ Table.userBits.recordWords)
    ∧ ∃ (s : State) (r : Request) (rest : List Request), s.Asked (.control .dropReset) r rest ∧ r.index = 8 :=
  ⟨⟨_, _, [], asked State.reset 1 6 0 [] _ rfl rfl (by decide +kernel)⟩,
    ⟨_, _, [], asked State.reset 1 4 32 [0, 0, 0] _ rfl rfl (by decide +kernel), by decide +kernel⟩,
    ⟨_, _, [], asked State.reset 1 5 0 [0] _ rfl rfl (by decide +kernel), by decide +kernel⟩,
    ⟨_, _, [], asked State.reset 3 3 8 [] _ rfl rfl (by decide +kernel), by decide +kernel⟩⟩

theorem witness_LoadPartWrites : ∃ (s : State) (r : Request) (rest : List Request), s.Asked (.load .part) r rest ∧
    r.index = 0 ∧ r.record.length = 9 ∧ s.tracker.state = .slew ∧ s.clock.correction < 0 :=
  ⟨_, _, [], asked ((State.reset.setTracker { Tracker.atPowerOn with state := .slew }).setCorrection (-13421772)) 1 1 0
    PartRecord.atPowerOn.words _ rfl rfl (by decide +kernel), by decide +kernel⟩

/-- The record that LOAD_PROFILE reads: refused, guarded, pending and taken at once. -/
theorem witness_LoadProfileAccepted :
    (∃ (s : State) (r : Request) (rest : List Request), s.Asked (.load .profile) r rest ∧ r.index = 0 ∧
      r.record.length = 9 ∧ Profile.ofWords r.record = none)
    ∧ (∃ (s : State) (r : Request) (rest : List Request) (p : Profile), s.Asked (.load .profile) r rest ∧ r.index = 0 ∧
      r.record.length = 9 ∧ Profile.ofWords r.record = some p ∧ (s.drop 0).take.state = .rolling ∧
      forceFlag r.record = false ∧ GuardedChange p (s.drop 0).profile)
    ∧ (∃ (s : State) (r : Request) (rest : List Request) (p : Profile), s.Asked (.load .profile) r rest ∧ r.index = 0 ∧
      r.record.length = 9 ∧ Profile.ofWords r.record = some p ∧ (s.drop 0).take.state = .idle ∧
      (s.drop 0).line.state ≠ .disabled)
    ∧ (∃ (s : State) (r : Request) (rest : List Request) (p : Profile), s.Asked (.load .profile) r rest ∧ r.index = 0 ∧
      r.record.length = 9 ∧ Profile.ofWords r.record = some p ∧ (s.drop 0).take.state = .rolling ∧
      ¬ GuardedChange p (s.drop 0).profile ∧ (s.drop 0).line.state ≠ .disabled)
    ∧ (∀ on : Bool, ∃ (s : State) (r : Request) (rest : List Request) (p : Profile), s.Asked (.load .profile) r rest ∧
      r.index = 7 ∧ r.record.length = 9 ∧ Profile.ofWords r.record = some p ∧ (s.drop 7).take.state = .idle ∧
      (s.drop 7).line.state = .disabled ∧ p.enabled = on) := by
  refine ⟨⟨_, _, [], asked State.reset 1 2 0 (List.replicate 9 0#16) _ rfl rfl (by decide +kernel), by decide +kernel⟩,
    ⟨_, _, [], { profileOf .camera with rate := .fps120 }, asked rolling0 1 2 0
      (({ profileOf .camera with rate := .fps120 } : Profile).words false false) _ rfl rfl (by decide +kernel),
      by unfold GuardedChange; decide +kernel⟩,
    ⟨_, _, [], profileOf .camera, asked camera0 1 2 0 ((profileOf .camera).words false false) _ rfl rfl
      (by decide +kernel), by decide +kernel⟩,
    ⟨_, _, [], profileOf .camera, asked rolling0 1 2 0 ((profileOf .camera).words false false) _ rfl rfl
      (by decide +kernel), by unfold GuardedChange; decide +kernel⟩, fun on => ?_⟩
  cases on
  · exact ⟨_, _, [], Profile.atPowerOn, asked State.reset 1 2 7 (Profile.atPowerOn.words false false) _ rfl rfl
      (by decide +kernel), by decide +kernel⟩
  · exact ⟨_, _, [], profileOf .edit, asked State.reset 1 2 7 ((profileOf .edit).words false false) _ rfl rfl
      (by decide +kernel), by decide +kernel⟩

/-- Region records for each judgement: a base past 511, an occupied region that would move, a shared slot, and the last free
place beside the pass region. -/
theorem witness_LoadRegionJudged :
    (∃ (s : State) (r : Request) (rest : List Request), s.Asked (.load .region) r rest ∧ r.index = 0 ∧
      (RegionRecord.ofWords r.record).assigned = true ∧ 511 < (RegionRecord.ofWords r.record).base)
    ∧ (∃ (s : State) (r : Request) (rest : List Request), s.Asked (.load .region) r rest ∧ r.index = 8 ∧
      (s.region 8).items ≠ [] ∧ (RegionRecord.ofWords r.record).assigned = false ∧ (s.region 8).assigned = true)
    ∧ (∃ (s : State) (r : Request) (rest : List Request) (j : RegionId) (slot : Nat),
      s.Asked (.load .region) r rest ∧ r.index = 0 ∧ (RegionRecord.ofWords r.record).inRange = true ∧
      (s.region 0).items = [] ∧ j ≠ 0 ∧ (s.region j).owns slot ∧ (RegionRecord.ofWords r.record).base ≤ slot ∧
      slot < (RegionRecord.ofWords r.record).base + (RegionRecord.ofWords r.record).size)
    ∧ ∃ (s : State) (r : Request) (rest : List Request), s.Asked (.load .region) r rest ∧ r.index = 0 ∧
      (RegionRecord.ofWords r.record).inRange = true ∧ (s.region 0).items = [] ∧
      ∀ j, j ≠ 0 → (s.region j).assigned = true → 0 < (s.region j).size ∧ ∀ slot, (s.region j).owns slot →
        ¬ ((RegionRecord.ofWords r.record).base ≤ slot
          ∧ slot < (RegionRecord.ofWords r.record).base + (RegionRecord.ofWords r.record).size) := by
  refine ⟨⟨_, _, [], asked State.reset 1 3 0 [0x8000#16, 512#16, 8#16] _ rfl rfl (by decide +kernel), by decide +kernel⟩,
    ⟨_, _, [], asked (holding State.reset [heldClap 1 true 0#8]) 1 3 8 [0#16, 0#16, 0#16] _ rfl rfl (by decide +kernel),
      by decide +kernel⟩,
    ⟨_, _, [], 8, 448, asked State.reset 1 3 0 [0x8000#16, 384#16, 128#16] _ rfl rfl (by decide +kernel),
      by unfold Region.owns; decide +kernel⟩,
    ⟨_, _, [], asked State.reset 1 3 0 [0x8000#16, 440#16, 8#16] _ rfl rfl (by decide +kernel), by decide +kernel,
      by decide +kernel, by decide +kernel, fun j hj ha => ?_⟩⟩
  have only : ∀ i, ((asking State.reset 1 3 0 [0x8000#16, 440#16, 8#16]).region i).assigned = true → i = 8 := by
    decide +kernel
  have h := only j ha
  subst h
  refine ⟨by decide +kernel, fun slot ho hr => ?_⟩
  have hb : 448 ≤ slot := ho.2.1
  have h2 : slot < 440 + 8 := hr.2
  omega

theorem witness_LoadRouteAndUserBits :
    (∃ (s : State) (r : Request) (rest : List Request), s.Asked (.load .route) r rest ∧ r.index = 31 ∧
      r.record.length = 3 ∧ (Route.ofWords r.record).valid = true ∧ 2 ≤ (Route.ofWords r.record).kind.toNat)
    ∧ (∃ (s : State) (r : Request) (rest : List Request) (j : RouteId) (k : RouteKind) (station : Nat),
      s.Asked (.load .route) r rest ∧ r.index = 31 ∧ (Route.ofWords r.record).inRange = true ∧ j ≠ 31 ∧
      (Route.ofWords r.record).covers k station = true ∧ (s.route j).covers k station = true)
    ∧ (∃ (s : State) (r : Request) (rest : List Request), s.Asked (.load .route) r rest ∧ r.index = 31 ∧
      r.record.length = 3 ∧ (Route.ofWords r.record).valid = true ∧ (Route.ofWords r.record).inRange = true ∧
      (∀ j k station, (s.route j).covers k station = false) ∧ ∀ j, (s.route j).valid = true → 0 < (s.route j).size)
    ∧ ∃ (s : State) (r : Request) (rest : List Request), s.Asked (.load .userBits) r rest ∧ r.index = 63 ∧
      r.record.length = 2 := by
  refine ⟨⟨_, _, [], asked State.reset 1 4 31 [0xC000#16, 1#16, 0#16] _ rfl rfl (by decide +kernel), by decide +kernel⟩,
    ⟨_, _, [], 0, .stamp, 4, asked (foreignAt true 1#8) 1 4 31 [0x8000#16, 0x0401#16, 0#16] _ rfl rfl
      (by decide +kernel), ?_⟩,
    ⟨_, _, [], asked State.reset 1 4 31 [0x8000#16, 64#16, 0#16] _ rfl rfl (by decide +kernel), by decide +kernel,
      by decide +kernel, by decide +kernel, by decide +kernel, fun j k station => ?_, by decide +kernel⟩,
    ⟨_, _, [], asked State.reset 1 5 63 [0#16, 0#16] _ rfl rfl (by decide +kernel), by decide +kernel⟩⟩
  · decide +kernel
  · have off : ∀ i, ((asking State.reset 1 4 31 [0x8000#16, 64#16, 0#16]).route i).valid = false := by decide +kernel
    simp [Route.covers, off j]

theorem witness_ControlsReachOneBlock : (∃ (s : State) (r : Request), s.Asked (.control .reopen) r [] ∧
      s.reports.gateOpen = false)
    ∧ (∃ (s : State) (r : Request), s.Asked (.control .forceJam) r [])
    ∧ (∃ (s : State) (r : Request), s.Asked (.control .hold) r [] ∧ s.tracker.hold = false ∧ s.tracker.state = .locked)
    ∧ (∃ (s : State) (r : Request), s.Asked (.control .resume) r [] ∧ s.tracker.hold = true)
    ∧ (∃ (s : State) (r : Request), s.Asked (.control .anchor) r [] ∧ r.index = 0 ∧ (s.drop 0).line.state ≠ .disabled)
    ∧ (∃ (s : State) (r : Request), s.Asked (.control .hold) r [] ∧ s.tracker.hold = true)
    ∧ (∃ (s : State) (r : Request), s.Asked (.control .resume) r [] ∧ s.tracker.hold = false)
    ∧ ∃ (s : State) (r : Request), s.Asked (.control .anchor) r [] ∧ r.index = 7 ∧ (s.drop 7).line.state = .disabled :=
  ⟨⟨_, _, asked (State.reset.setReports { ReportUnit.atPowerOn with gateOpen := false }) 3 1 0 [] _ rfl rfl
      (by decide +kernel), by decide +kernel⟩,
    ⟨_, _, asked State.reset 3 5 0 [] _ rfl rfl (by decide +kernel)⟩,
    ⟨_, _, asked (State.reset.setTracker { Tracker.atPowerOn with state := .locked }) 3 6 0 [] _ rfl rfl
      (by decide +kernel), by decide +kernel⟩,
    ⟨_, _, asked (State.reset.setTracker { Tracker.atPowerOn with state := .freewheel, hold := true }) 3 7 0 [] _ rfl rfl
      (by decide +kernel), by decide +kernel⟩,
    ⟨_, _, asked camera0 3 4 0 [] _ rfl rfl (by decide +kernel), by decide +kernel⟩,
    ⟨_, _, asked (State.reset.setTracker { Tracker.atPowerOn with state := .freewheel, hold := true }) 3 6 0 [] _ rfl rfl
      (by decide +kernel), by decide +kernel⟩,
    ⟨_, _, asked State.reset 3 7 0 [] _ rfl rfl (by decide +kernel), by decide +kernel⟩,
    ⟨_, _, asked State.reset 3 4 7 [] _ rfl rfl (by decide +kernel), by decide +kernel⟩⟩

/-- With a take ROLLING, and a profile, enabled or not, and an anchor pending. -/
theorem witness_TrunkResetReachesBlocks (on : Bool) : ∃ (s : State) (r : Request) (p : Profile),
    s.Asked (.control .trunkReset) r [] ∧ (∀ side, (s.waitingTrims side).length ≤ 4) ∧ (s.drop 0).take.state = .rolling ∧
    (s.drop 0).cadence.pendingProfile = some p ∧ p.enabled = on ∧ (s.drop 1).cadence.pendingProfile = none ∧
    (s.drop 1).cadence.pendingAnchor = true :=
  ⟨_, _, { profileOf .camera with enabled := on },
    asked ((rolling0.updCadence 0 (fun c => { c with pendingProfile := some { profileOf .camera with enabled := on } })).updCadence
      1 (fun c => { c with pendingAnchor := true })) 3 2 0 [] _ rfl rfl (by decide +kernel),
    fun _ => Nat.zero_le 4, rfl, rfl, rfl, rfl, rfl⟩

/-- Four STORE_TRIM replies wait on side A and one on side B, and replies stand in the queue. -/
theorem witness_TrunkResetReachesBlocks_waiting : ∃ (s : State) (r : Request), s.Asked (.control .trunkReset) r [] ∧
    (∀ side, (s.waitingTrims side).length ≤ 4) ∧ (s.waitingTrims .a).length = 4 ∧ (s.waitingTrims .b).length = 1 ∧
    (s.port .a).replies ≠ [] :=
  ⟨_, _, asked (threeReplies.setMgmt { threeReplies.mgmt with
      trimReplies := { side := .b, words := [] } :: List.replicate 4 { side := .a, words := [] } }) 3 2 0 [] _ rfl rfl
      (by decide +kernel), fun side => by cases side <;> decide +kernel, by decide +kernel⟩

/-- R176: a completion that falls together with the reset, taken before it or after it, in the one emptied queue: `writing`
owes its reply with tag 0, and the reset's own has tag 9. -/
theorem test_trunk_reset_together :
    ((after .trunkReset (after .trimWriteComplete (asking writing 3 2 0 []))).port .a).replies.map trunkTag = [0, 9]
      ∧ ((after .trimWriteComplete (after .trunkReset (asking writing 3 2 0 []))).port .a).replies.map trunkTag = [9, 0] := by
  decide +kernel

/-- R154: a STORE_TRIM reply that stands in its queue when a TRUNK_RESET arrives and is taken is lost with the queue. -/
theorem test_trunk_reset_loses_queued :
    ((after .trunkReset (asking (after .trimWriteComplete writing) 3 2 0 [])).port .a).replies.map trunkTag = [9] := by
  decide +kernel

/-- The CAMERA profile as a pending one, enabled or not. -/
def cameraPending (on : Bool) : Profile := { profileOf .camera with enabled := on }

/-- With a packet of the drop in its holding register and another at the intake, an item held for it, and a take and a pending
profile of each kind. -/
theorem witness_DropResetEmptiesDrop (x : TakeState) (pending : Option Bool) : ∃ (s : State) (r : Request),
    s.Asked (.control .dropReset) r [] ∧ r.index = 0 ∧ (s.heldItems.map Held.serial).Nodup ∧
    s.intake.inProcess.map InProcess.source = some 0 ∧ (s.drop 0).line.holding ≠ none ∧ (s.drop 0).take.state = x ∧
    (s.drop 0).cadence.pendingProfile = pending.map cameraPending ∧ (s.region 0).assigned = true ∧ 1 ≤ (s.region 0).size ∧
    (s.region 0).items.length = 1 ∧ Routed s .stamp ∧ s.NoneStaleAfter 1 := by
  refine ⟨_, _, asked (inIntake ((rolling0.updRegion 0 (fun r => { r with items := [heldClap 0 true 1#8] })).updDrop 0
      (fun y => { y with
        line := { y.line with holding := some ⟨[], 0, 0⟩ }, take := { y.take with state := x },
        cadence := { y.cadence with pendingProfile := pending.map cameraPending } })) []) 3 3 0 [] _ rfl rfl (by decide +kernel), rfl, ?_, rfl,
    ?_, rfl, rfl, rfl, ?_, rfl, Or.inl ?_, ?_⟩
  all_goals (try unfold State.NoneStaleAfter); cases x <;> obtain - | on := pending <;> (try cases on) <;> decide +kernel

theorem witness_ReportsThroughGate : (∃ (s : State) (c : Cause), s.inReset = false ∧ s.reports.gateOpen = true ∧
      s.trunk.reportSlot = none ∧ s.eligible c = true ∧ ∀ c' : Cause, c'.code < c.code → s.eligible c' = false)
    ∧ ∃ s : State, s.inReset = false ∧ s.reports.timerRunning = true ∧ s.reports.expiryDue = true :=
  ⟨⟨(State.reset.setPart { PartRecord.atPowerOn with causeEnables := 0xFFF#12, trafficEnable := true }).latch .checkError
      (some 3), .checkError, by decide +kernel, by decide +kernel, by decide +kernel, by decide +kernel,
      fun c' => by cases c' <;> decide +kernel⟩,
    ⟨State.reset.setReports { ReportUnit.atPowerOn with timerRunning := true, expiryDue := true }, by decide +kernel⟩⟩

/-- A profile at the ends of its ranges. -/
theorem witness_RecordsReadBack : ∃ p : Profile, (p.dropFrame = true → p.rate = .fps30000over1001 ∨
      p.rate = .fps60000over1001) ∧ (p.dfFunction = .word → p.audio ≠ .none) ∧ -2147483647 ≤ p.offset ∧
    p.offset ≤ 2147483647 ∧ p.pulseWidth < p.rate.period ∧ p.quietLimit ≤ 255 ∧ 1 ≤ p.stampWindow ∧
    p.stampWindow ≤ 255 :=
  ⟨{ profileOf .edit with
      rate := .fps60000over1001, dropFrame := true, offset := -2147483647, pulseWidth := 3203199, stampWindow := 255,
      dfFunction := .word, audio := .khz192 }, by decide +kernel⟩

theorem witness_RecordsReadBack_part : ∃ p : PartRecord, p.propShift ≤ 15 ∧ p.intShift ≤ 15 ∧ 1 ≤ p.lockWindow ∧
    p.lockWindow ≤ 65535 ∧ p.lockWindow ≤ p.stepThreshold ∧ p.stepThreshold < 4294967296 ∧ 1 ≤ p.nLock ∧ p.nLock ≤ 255 ∧
    1 ≤ p.nOut ∧ p.nOut ≤ 255 ∧ 1 ≤ p.lMiss ∧ p.lMiss ≤ 255 ∧ 1 ≤ p.slewPpm ∧ p.slewPpm ≤ 1000 ∧
    p.trunkDelay ≤ 65535 ∧ 1 ≤ p.holdoff ∧ p.holdoff ≤ 255 :=
  ⟨{ PartRecord.atPowerOn with lockWindow := 65535, stepThreshold := 65535, slewPpm := 1000, holdoff := 255 },
    by decide +kernel⟩

end Sys2Proof.Tests
end

section
/-! SUPPORT. R2: c lies within ±67,108,864, which is 4 ticks, and an epoch adds 4,000 × 2^24 + c to H and F exactly, so H
advances by 4,000 ± 4 whole ticks. -/

namespace Sys2Proof.Machine

/-! ## The bound of c (R2, R23, R25) -/

theorem PartRecord.slewStep_nonneg (p : PartRecord) : 0 ≤ p.slewStep := Int.natCast_nonneg _

/-- L_slew at the largest slew limit is 4 ticks (R23). -/
theorem PartRecord.slewStep_le {p : PartRecord} (h : p.slewPpm ≤ 1000) : p.slewStep ≤ 67108864 := by
  unfold PartRecord.slewStep
  omega

/-- In SLEW the bound is L_slew, and outside it C_track. -/
theorem State.TimeBounded.correction_within {s : State} (hb : s.TimeBounded) :
    -67108864 ≤ s.clock.correction ∧ s.clock.correction ≤ 67108864 := by
  by_cases hs : s.tracker.state = .slew
  · have nonneg := s.part.slewStep_nonneg
    have le := PartRecord.slewStep_le hb.slewPpm.2
    rcases hb.slewing hs with hc | hc <;> omega
  · obtain ⟨low, high⟩ := hb.correction hs
    unfold Config.cTrack at low high
    omega

/-! ## The house clock at an epoch (R1) -/

theorem houseTimeOf_of_lt {x : Nat} (h : x < 2 ^ 64) : houseTimeOf x = x := if_pos h

@[simp] theorem Clock.advance_correction (c : Clock) : c.advance.correction = c.correction := rfl

theorem Clock.epochSum_eq (c : Clock) : c.epochSum = c.fraction + (67108864000 + c.correction) := rfl

/-- The fraction keeps what is left of s = F + I below a tick. -/
theorem Clock.advance_fraction (c : Clock) : (c.advance.fraction : Int) = c.epochSum % 16777216 :=
  Int.toNat_of_nonneg (Int.emod_nonneg _ (by decide))

theorem Clock.advance_fraction_lt (c : Clock) : c.advance.fraction < 16777216 := by
  have := c.advance_fraction
  omega

/-- House time takes the whole ticks of s = F + I, while the sum stays in its 64 bits. -/
theorem Clock.advance_time {c : Clock} (hpos : 0 ≤ c.epochSum)
    (hend : c.time + c.epochSum / 16777216 < 2 ^ 64) :
    (c.advance.time : Int) = c.time + c.epochSum / 16777216 := by
  have hlt : (c.time + c.epochSum / 16777216).toNat < 2 ^ 64 := by omega
  have htime : c.advance.time = (c.time + c.epochSum / 16777216).toNat := houseTimeOf_of_lt hlt
  omega

/-- Nothing is lost between H and F: together they grow by 4,000 × 2^24 + c. -/
theorem Clock.advance_exact {c : Clock} (hf : c.fraction < 16777216) (hlow : -67108864 ≤ c.correction)
    (hhigh : c.correction ≤ 67108864) (hend : c.time + 4004 < 2 ^ 64) :
    (c.advance.time : Int) * 16777216 + c.advance.fraction
      = c.time * 16777216 + c.fraction + 67108864000 + c.correction := by
  have hsum := c.epochSum_eq
  have htime := Clock.advance_time (c := c) (by omega) (by omega)
  have hfrac := c.advance_fraction
  omega

/-! ## The command EPOCH -/

@[simp] theorem State.epoch_clock (s : State) : s.epoch.clock = s.clock.advance :=
  (s.setClock s.clock.advance).countMissingTime_touches.clock rfl

theorem exec_epoch_running {s : State} (h : s.inReset = false) : exec .epoch s = .next s.epoch :=
  whenRunning_running State.epoch h

end Sys2Proof.Machine

open Sys2Proof Sys2Proof.Machine

/-- Settles O7: the growth of H and F is exact, and both fractions are below a tick. -/
theorem epochAdvanceWithinLimits : Obligations.EpochAdvanceWithinLimits := by
  intro s hb hrun hend
  obtain ⟨hlow, hhigh⟩ := hb.correction_within
  have hf := hb.fraction
  have hexact := Clock.advance_exact hf hlow hhigh hend
  have hf' := s.clock.advance_fraction_lt
  refine ⟨s.epoch, exec_epoch_running hrun, ?_⟩
  rw [State.epoch_clock]
  refine ⟨?low, ?high, hlow, hhigh, s.clock.advance_correction, fun hmax => ?atMax, fun hmin => ?atMin⟩
  all_goals omega
end

section
/-! SUPPORT. R86, R88, R89: what becomes of a packet complete in a drop's shift register. Each outcome is one update of the
drop's line, with a latching where the packet is lost. -/

namespace Sys2Proof.Machine

/-! ## A drop's line and a latching -/

/-- Two updates of one drop's line are one. -/
theorem State.updLine_updLine (s : State) (d : DropId) (f g : Line → Line) :
    (s.updLine d f).updLine d g = s.updLine d (fun l => g (f l)) :=
  s.updDrop_updDrop d _ _

theorem State.drop_updLine_self (s : State) (d : DropId) (f : Line → Line) :
    (s.updLine d f).drop d = { s.drop d with line := f (s.drop d).line } :=
  s.drop_updDrop_self d _

theorem OnlyDrop.andLatches {d : DropId} {s t : State} (h : OnlyDrop d s t) : OnlyDropAndLatches d s t := by
  obtain ⟨hframe, hothers⟩ := h
  have hreports : t.reports = s.reports := by rw [hframe]
  exact ⟨by rw [hreports]; exact hframe, hothers⟩

theorem OnlyDrop.latch {d : DropId} {s t : State} (h : OnlyDrop d s t) (c : Cause) (x : Option DropId) :
    OnlyDropAndLatches d s (t.latch c x) := by
  obtain ⟨hframe, hothers⟩ := h
  exact ⟨by rw [hframe]; rfl, hothers⟩

/-! ## The judgement of a complete packet -/

/-- A failed check: the packet is gone from the shift register, and counted (R89). -/
def Line.checkFailed (l : Line) : Line :=
  { l.clearShift with counters := { l.counters with checkFailures := satInc16 l.counters.checkFailures } }

/-- An overrun: likewise, and the holding register keeps the older packet (R89). -/
def Line.overrun (l : Line) : Line :=
  { l.clearShift with counters := { l.counters with overruns := satInc16 l.counters.overruns } }

theorem State.stampReceived_of_wrong {s : State} {d : DropId} {words : List Word} (h : checkCorrect words = false) :
    s.stampReceived d words = (s.updLine d Line.checkFailed).latch .checkError (some d) := by
  simp only [State.stampReceived, h, Bool.not_false, if_true, State.updCounters, State.updLine_updLine]
  rfl

theorem State.stampReceived_of_full {s : State} {d : DropId} {words : List Word} (h : checkCorrect words = true)
    (hfull : (s.drop d).line.holding ≠ none) :
    s.stampReceived d words = (s.updLine d Line.overrun).latch .overrun (some d) := by
  simp only [State.stampReceived, h, Option.isSome_iff_ne_none.mpr hfull, Bool.not_true, Bool.false_eq_true, if_false,
    if_true, State.updCounters, State.updLine_updLine]
  rfl

theorem State.stampReceived_of_empty {s : State} {d : DropId} {words : List Word} (h : checkCorrect words = true)
    (hempty : (s.drop d).line.holding = none) :
    s.stampReceived d words = s.updLine d (fun l => l.clearShift.store (s.drop d).profile.clocking
      { words := words, time := s.clock.time, stepCount := s.clock.stepCount }) := by
  simp only [State.stampReceived, h, hempty, Option.isSome_none, Bool.not_true, Bool.false_eq_true, if_false,
    State.updLine_updLine]

/-- Where no wait is on, storing a packet starts one, and counts it, under PART clocking alone (R88). -/
theorem Line.store_of_not_wait {l : Line} (clocking : Clocking) (r : Received) (h : l.wait = false) :
    l.store clocking r = { l with
      holding := some r,
      wait := clocking == .part,
      counters := { l.counters with
        received := satInc16 l.counters.received,
        waits := if clocking = .part then satInc16 l.counters.waits else l.counters.waits } } := by
  cases clocking with
  | part => rfl
  | device =>
    have hdevice : (Clocking.device == .part) = false := rfl
    simp [Line.store, hdevice, ← h]

/-- Whatever the judgement, it reaches the drop and the latches only. -/
theorem State.onlyDropAndLatches_stampReceived (s : State) (d : DropId) (words : List Word) :
    OnlyDropAndLatches d s (s.stampReceived d words) := by
  by_cases hcheck : checkCorrect words = true
  · by_cases hempty : (s.drop d).line.holding = none
    · rw [State.stampReceived_of_empty hcheck hempty]
      exact (s.onlyDrop_updDrop d _).andLatches
    · rw [State.stampReceived_of_full hcheck hempty]
      exact (s.onlyDrop_updDrop d _).latch _ _
  · rw [State.stampReceived_of_wrong (Bool.eq_false_of_not_eq_true hcheck)]
    exact (s.onlyDrop_updDrop d _).latch _ _

/-! ## The command STAMP_PACKET_COMPLETE -/

theorem Drop.shiftingIn_iff (x : Drop) :
    x.shiftingIn = true ↔ x.onLine = true ∧ x.line.shift = .receiving ∧ x.line.wait = false := by
  simp [Drop.shiftingIn, and_assoc]

/-- Out of a wait, a packet complete on a part-full shift register is judged. -/
theorem exec_stampPacketComplete_judged {s : State} {d : DropId} {words : List Word} (hrun : s.inReset = false)
    (hin : (s.drop d).shiftingIn = true) (hdone : dropComplete words = true)
    (hpart : (s.drop d).profile.clocking = .part → (s.drop d).line.holding = none) :
    exec (.stampPacketComplete d words) s = .next (s.stampReceived d words) := by
  have hroom : ((s.drop d).profile.clocking == .part && (s.drop d).line.holding.isSome) = false := by
    simpa using hpart
  have hjudged : s.stampPacketComplete d words = s.stampReceived d words := by
    simp [State.stampPacketComplete, hin, hdone, hroom]
  rw [← hjudged]
  exact whenRunning_running _ hrun

end Sys2Proof.Machine

open Sys2Proof Sys2Proof.Machine

/-- Settles O21: the check is judged first, then the holding register; each outcome is one update of the drop's line. -/
theorem stampPacketJudged : Obligations.StampPacketJudged := by
  rintro s d words _ hrun hline rfl hshift hwait hdone hpart
  refine ⟨s.stampReceived d words,
    exec_stampPacketComplete_judged hrun ((Drop.shiftingIn_iff _).mpr ⟨hline, hshift, hwait⟩) hdone hpart,
    s.onlyDropAndLatches_stampReceived d words, fun hwrong => ?wrong, fun hright hfull => ?full,
    fun hright hempty => ?empty⟩
  case wrong =>
    rw [State.stampReceived_of_wrong hwrong]
    exact ⟨State.latch_spec (s.updLine d Line.checkFailed) _ _, s.drop_updLine_self d _⟩
  case full =>
    rw [State.stampReceived_of_full hright hfull]
    exact ⟨State.latch_spec (s.updLine d Line.overrun) _ _, s.drop_updLine_self d _⟩
  case empty =>
    have hclear : (s.drop d).line.clearShift.wait = false := hwait
    rw [State.stampReceived_of_empty hright hempty]
    refine ⟨rfl, ?_⟩
    rw [State.drop_updLine_self, Line.store_of_not_wait _ _ hclear]
    rfl
end

section
/-! SUPPORT. R105, R106: which stamps the intake turns away, and what becomes of them. A stamp is read in parts, the kind,
the form's moment, the take number and the label's range, and it is malformed where one of the parts fails. -/

namespace Sys2Proof.Machine

/-! ## Reading a stamp's payload (R104, R105) -/

theorem stampKindOf_eq_none_iff (code : Nat) (extra : Word) :
    stampKindOf code extra = none ↔ code ∉ [1, 2, 3, 4, 5] := by
  unfold stampKindOf
  split <;> simp_all

/-- The kind that a payload's kind code and its last optional word name; none for an invalid kind code. -/
def StampKind.ofPayload (ws : List Word) : Option StampKind :=
  stampKindOf (bitsOf (wordAt ws 0) 12 4) (wordAt ws (if bitOf (wordAt ws 0) 9 then 5 else 4))

/-- The moment that a payload's form code and its words 1 to 3 name; none for an invalid form code. -/
def Moment.ofPayload (ws : List Word) : Option Moment :=
  match bitsOf (wordAt ws 0) 10 2 with
  | 0 => some (.frame (natOfWords (wordsFrom ws 1 3)))
  | 1 => some (.label { hours := bitsOf (wordAt ws 1) 8 8, minutes := bitsOf (wordAt ws 1) 0 8,
                        seconds := bitsOf (wordAt ws 2) 8 8, frames := bitsOf (wordAt ws 2) 0 8 })
  | _ => none

/-- A payload carries take number 0 as present. -/
def takesZero (ws : List Word) : Prop := bitsOf (wordAt ws 0) 9 1 = 1 ∧ wordAt ws 4 = 0#16

/-- A payload names a label out of its ranges under a label base (R72). -/
def labelOutside (ws : List Word) (base : Nat) : Prop :=
  bitsOf (wordAt ws 0) 10 2 = 1 ∧ (23 < bitsOf (wordAt ws 1) 8 8 ∨ 59 < bitsOf (wordAt ws 1) 0 8
    ∨ 59 < bitsOf (wordAt ws 2) 8 8 ∨ base ≤ bitsOf (wordAt ws 2) 0 8)

theorem StampKind.ofPayload_eq_none_iff (ws : List Word) :
    StampKind.ofPayload ws = none ↔ bitsOf (wordAt ws 0) 12 4 ∉ [1, 2, 3, 4, 5] :=
  stampKindOf_eq_none_iff _ _

theorem Moment.ofPayload_eq_none_iff (ws : List Word) :
    Moment.ofPayload ws = none ↔ bitsOf (wordAt ws 0) 10 2 ∉ [0, 1] := by
  unfold Moment.ofPayload
  split <;> simp_all

theorem Label.inRange_eq_false_iff (l : Label) (base : Nat) :
    l.inRange base = false ↔ 23 < l.hours ∨ 59 < l.minutes ∨ 59 < l.seconds ∨ base ≤ l.frames := by
  simp only [Label.inRange, Bool.and_eq_false_iff, decide_eq_false_iff_not, not_le, not_lt, or_assoc]

/-- Only a label can be out of range. -/
theorem Moment.inRange_eq_false_iff {ws : List Word} {m : Moment} (h : Moment.ofPayload ws = some m) (base : Nat) :
    m.inRange base = false ↔ labelOutside ws base := by
  unfold Moment.ofPayload at h
  split at h
  next hform =>
    obtain rfl := Option.some.inj h
    simp [Moment.inRange, labelOutside, hform]
  next hform =>
    obtain rfl := Option.some.inj h
    simp [Moment.inRange, labelOutside, hform, Label.inRange_eq_false_iff]
  next => cases h

theorem takesZero_iff (ws : List Word) :
    (bitOf (wordAt ws 0) 9 && (wordAt ws 4).toNat == 0) = true ↔ takesZero ws := by
  simp [takesZero, bitOf, BitVec.toNat_eq]

/-- The parts of a stamp, one after the other. -/
theorem DeviceStamp.ofPayload_eq (ws : List Word) :
    DeviceStamp.ofPayload ws =
      match StampKind.ofPayload ws, Moment.ofPayload ws with
      | some kind, some moment =>
        if bitOf (wordAt ws 0) 9 && (wordAt ws 4).toNat == 0 then none
        else some { kind := kind, moment := moment, subframe := bitsOf (wordAt ws 0) 0 8,
                    takeNumber := if bitOf (wordAt ws 0) 9 then some (wordAt ws 4).toNat else none }
      | _, _ => none := rfl

/-- A payload is not read as a stamp exactly where its kind, its form or its take number fails. -/
theorem DeviceStamp.ofPayload_eq_none_iff (ws : List Word) :
    DeviceStamp.ofPayload ws = none ↔
      bitsOf (wordAt ws 0) 12 4 ∉ [1, 2, 3, 4, 5] ∨ bitsOf (wordAt ws 0) 10 2 ∉ [0, 1] ∨ takesZero ws := by
  rw [DeviceStamp.ofPayload_eq, ← StampKind.ofPayload_eq_none_iff, ← Moment.ofPayload_eq_none_iff, ← takesZero_iff]
  cases StampKind.ofPayload ws with
  | none => simp
  | some kind =>
    cases Moment.ofPayload ws with
    | none => simp
    | some moment => simp

theorem DeviceStamp.ofPayload_moment {ws : List Word} {x : DeviceStamp} (h : DeviceStamp.ofPayload ws = some x) :
    Moment.ofPayload ws = some x.moment := by
  rw [DeviceStamp.ofPayload_eq] at h
  split at h
  next hmoment =>
    split at h
    · cases h
    · cases h; exact hmoment
  next => cases h

/-! ## The checks (R105, R106) -/

theorem State.readStamp_eq_none_iff (s : State) (d : DropId) (words : List Word) :
    s.readStamp d words = none ↔ DeviceStamp.ofPayload (dropPayload words) = none
      ∨ labelOutside (dropPayload words) (s.drop d).profile.rate.base := by
  unfold State.readStamp
  split
  next x hread =>
    rw [← Moment.inRange_eq_false_iff (DeviceStamp.ofPayload_moment hread)]
    simp [hread]
  next hread => simp [hread]

/-- The table of roles, entry by entry. -/
theorem Profile.accepts_iff (p : Profile) (k : StampKind) :
    p.accepts k = true ↔
      match p.role with
      | .camera => k = .clap → p.clapCapable = true
      | .recorder => k ≠ .clap
      | .slate => k ≠ .roll ∧ k ≠ .cut
      | .edit => ∃ code, k = .mark code
      | .monitor => False := by
  unfold Profile.accepts
  cases p.role <;> cases k <;> simp

/-! ## The command INTAKE_COMPLETE -/

/-- The intake gives its packet up. -/
def State.intakeFreed (s : State) : State := s.setIntake { s.intake with inProcess := none }

/-- A completion is judged at the intake that has just been freed. -/
theorem exec_intakeComplete {s : State} {d : DropId} {r : Received} (hrun : s.inReset = false)
    (hproc : s.intake.inProcess = some { source := d, packet := r }) :
    exec .intakeComplete s = .next (s.intakeFreed.completeStamp d r) := by
  have hcomplete : s.intakeComplete = s.intakeFreed.completeStamp d r := by
    simp only [State.intakeComplete, hproc, State.intakeFreed]
  rw [← hcomplete]
  exact whenRunning_running _ hrun

theorem State.completeStamp_of_malformed {s : State} {d : DropId} {r : Received} (h : s.readStamp d r.words = none) :
    s.completeStamp d r = s.countMalformed d := by
  simp only [State.completeStamp, h]

/-- A stamp the role does not accept is counted (R106). -/
def State.countRefusal (s : State) (d : DropId) : State :=
  s.updCounters d (fun c => { c with roleRefusals := satInc16 c.roleRefusals })

theorem State.completeStamp_of_refused {s : State} {d : DropId} {r : Received} {x : DeviceStamp}
    (h : s.readStamp d r.words = some x) (hrole : (s.drop d).profile.accepts x.kind = false) :
    s.completeStamp d r = s.countRefusal d := by
  simp only [State.completeStamp, h, hrole, Bool.false_eq_true, if_false, State.countRefusal]

theorem State.drop_countMalformed (s : State) (d e : DropId) :
    (s.countMalformed d).drop e =
      if e = d then { s.drop e with line := { (s.drop e).line with counters := { (s.drop e).line.counters with
        malformed := satInc16 (s.drop e).line.counters.malformed } } }
      else s.drop e :=
  s.drop_updCounters d e (fun c => { c with malformed := satInc16 c.malformed })

theorem State.drop_countRefusal (s : State) (d e : DropId) :
    (s.countRefusal d).drop e =
      if e = d then { s.drop e with line := { (s.drop e).line with counters := { (s.drop e).line.counters with
        roleRefusals := satInc16 (s.drop e).line.counters.roleRefusals } } }
      else s.drop e :=
  s.drop_updCounters d e _

end Sys2Proof.Machine

open Sys2Proof Sys2Proof.Machine

/-- Settles O27: a stamp's parts are judged one by one; a stamp turned away is one update of its drop's counters, and a
latching where it is malformed. -/
theorem intakeTurnsAway : Obligations.IntakeTurnsAway := by
  refine ⟨?parts, Profile.accepts_iff, fun s d r hrun hproc => ?_⟩
  case parts =>
    rintro s d words _ _ _ rfl rfl rfl
    rw [State.readStamp_eq_none_iff, DeviceStamp.ofPayload_eq_none_iff, or_assoc, or_assoc]
    rfl
  have hexec := exec_intakeComplete hrun hproc
  refine ⟨fun hread => ?malformed, fun x hread hrole => ?refused⟩
  case malformed =>
    have hread' : s.intakeFreed.readStamp d r.words = none := hread
    rw [State.completeStamp_of_malformed hread'] at hexec
    have hdrop := s.intakeFreed.drop_countMalformed d
    exact ⟨_, hexec, rfl, State.latch_spec _ _ _, fun e he => (hdrop e).trans (if_neg he),
      (hdrop d).trans (if_pos rfl)⟩
  case refused =>
    have hread' : s.intakeFreed.readStamp d r.words = some x := hread
    rw [State.completeStamp_of_refused hread' hrole] at hexec
    have hdrop := s.intakeFreed.drop_countRefusal d
    exact ⟨_, hexec, rfl, fun e he => (hdrop e).trans (if_neg he), (hdrop d).trans (if_pos rfl)⟩
end

section
/-! SUPPORT. R128: where the regions lie and how much they hold. But for POWER_ON and LOAD_REGION, no command moves a
region, and none adds an item to a full one; so what each operation of the store does to one region is said once, and the
operations built on them only compose. -/

namespace Sys2Proof.Machine

/-! ## Regions that stay where they are -/

/-- A region keeps its slots, and goes on holding no more than its size. -/
structure Region.Stays (r r' : Region) : Prop where
  assigned : r'.assigned = r.assigned
  base : r'.base = r.base
  size : r'.size = r.size
  within : r.items.length ≤ r.size → r'.items.length ≤ r.size

theorem Region.Stays.refl (r : Region) : r.Stays r := ⟨rfl, rfl, rfl, id⟩

theorem Region.Stays.trans {r r' r'' : Region} (h : r.Stays r') (h' : r'.Stays r'') : r.Stays r'' where
  assigned := h'.assigned.trans h.assigned
  base := h'.base.trans h.base
  size := h'.size.trans h.size
  within hr := h.size ▸ h'.within (h.size.symm ▸ h.within hr)

theorem Region.Stays.owns_iff {r r' : Region} (h : r.Stays r') (slot : Nat) : r'.owns slot ↔ r.owns slot := by
  unfold Region.owns
  rw [h.assigned, h.base, h.size]

/-- Every region stays where it is. -/
def State.RegionsStay (s t : State) : Prop := ∀ i, (s.region i).Stays (t.region i)

theorem State.RegionsStay.refl (s : State) : s.RegionsStay s := fun i => Region.Stays.refl (s.region i)

theorem State.RegionsStay.trans {s t u : State} (h : s.RegionsStay t) (h' : t.RegionsStay u) : s.RegionsStay u :=
  fun i => (h i).trans (h' i)

/-- The last operation of several, where the ones before it are left to prove. -/
theorem State.RegionsStay.after {s t u : State} (h' : t.RegionsStay u) (h : s.RegionsStay t) : s.RegionsStay u :=
  h.trans h'

/-- What may follow on a state where the regions have stayed. -/
theorem State.RegionsStay.thenIf {c : Prop} [Decidable c] {s t u : State} (h : s.RegionsStay t)
    (h' : t.RegionsStay u) : s.RegionsStay (if c then u else t) := by
  split
  · exact h.trans h'
  · exact h

theorem State.RegionsStay.foldl {α : Type} {f : State → α → State} (h : ∀ (s : State) x, s.RegionsStay (f s x))
    (l : List α) (s : State) : s.RegionsStay (l.foldl f s) := by
  induction l generalizing s with
  | nil => exact .refl s
  | cons x l ih => exact (h s x).trans (ih (f s x))

theorem State.RegionsStay.of_store {s t : State} (h : t.store = s.store) : s.RegionsStay t :=
  fun i => State.region_eq_of_store h i ▸ Region.Stays.refl (s.region i)

/-- What does not touch the store leaves the regions where they are. -/
theorem Touches.stays {bs : List Block} {s t : State} (h : Touches bs s t)
    (hb : bs.contains .store = false := by rfl) : s.RegionsStay t := .of_store (h.store hb)

/-- The law of R128 is kept wherever the regions stay. -/
theorem State.RegionsStay.regionsFit {s t : State} (h : s.RegionsStay t) (hfit : s.RegionsFit) : t.RegionsFit where
  apart i j slot hij hi hj := hfit.apart i j slot hij (((h i).owns_iff slot).mp hi) (((h j).owns_iff slot).mp hj)
  inStore i slot hi := hfit.inStore i slot (((h i).owns_iff slot).mp hi)
  within i := (h i).size.symm ▸ (h i).within (hfit.within i)

/-! ## What the store does to a region -/

theorem State.updRegion_stays {s : State} {i : RegionId} {f : Region → Region}
    (h : (s.region i).Stays (f (s.region i))) : s.RegionsStay (s.updRegion i f) := by
  intro j
  rw [State.region_updRegion]
  split
  next hj => subst hj; exact h
  next => exact .refl _

theorem State.updAllRegions_stays {f : Region → Region} (h : ∀ r : Region, r.Stays (f r)) (s : State) :
    s.RegionsStay (s.updAllRegions f) :=
  fun i => (s.region_updAllRegions f i).symm ▸ h (s.region i)

/-- A region that only loses items stays. -/
theorem Region.stays_of_length_le {r r' : Region} (ha : r'.assigned = r.assigned) (hb : r'.base = r.base)
    (hs : r'.size = r.size) (hlen : r'.items.length ≤ r.items.length) : r.Stays r' :=
  ⟨ha, hb, hs, hlen.trans⟩

theorem Region.discard_stays (serial : Nat) (r : Region) : r.Stays (r.discard serial) := by
  unfold Region.discard
  split
  · exact stays_of_length_le rfl rfl rfl List.length_eraseP_le
  · exact .refl r

theorem Region.strip_stays (f : Held → Held) (r : Region) : r.Stays (r.strip f) :=
  stays_of_length_le rfl rfl rfl ((List.length_filter_le Held.owed _).trans_eq (List.length_map _))

theorem Region.resetByTrunk_stays (r : Region) : r.Stays r.resetByTrunk :=
  stays_of_length_le rfl rfl rfl (Nat.zero_le _)

theorem Region.retireAtOnce_stays (r : Region) : r.Stays r.retireAtOnce := stays_of_length_le rfl rfl rfl le_rfl

theorem Region.refuseItem_stays (r : Region) : r.Stays r.refuseItem := stays_of_length_le rfl rfl rfl le_rfl

/-- An item joins only where there is room for it (R130). -/
theorem Region.join_stays {r : Region} (hroom : r.items.length < r.size) (h : Held) : r.Stays (r.join h) where
  assigned := rfl
  base := rfl
  size := rfl
  within _ := by simpa [Region.join] using hroom

/-- The newcomer takes the place of the item that it displaces (R133). -/
theorem Region.displace_stays {r : Region} {inFlight : Nat → Bool}
    (hany : r.items.any (fun x => !inFlight x.serial) = true) (h : Held) : r.Stays (r.displace inFlight h) := by
  obtain ⟨x, hx, hfree⟩ := List.any_eq_true.mp hany
  have hless := List.length_eraseP_add_one (p := fun x => !inFlight x.serial) hx hfree
  exact stays_of_length_le rfl rfl rfl ((List.length_append ..).trans hless).le

/-! ## Discard, retirement and admission (R129 to R139) -/

theorem State.discardItem_stays (s : State) (serial : Nat) : s.RegionsStay (s.discardItem serial) :=
  (s.updAllRegions_stays (Region.discard_stays serial)).trans
    (.foldl (fun t d => (t.unqueue_touches serial d).stays) allDrops _)

theorem State.discardItems_stays (s : State) (items : List Held) : s.RegionsStay (s.discardItems items) := by
  unfold State.discardItems
  exact .foldl (fun t (h : Held) => t.discardItem_stays h.serial) items s

theorem State.strip_stays (s : State) (f : Held → Held) : s.RegionsStay (s.strip f) :=
  s.updAllRegions_stays (Region.strip_stays f)

theorem State.drawSerial_stays (s : State) : s.RegionsStay s.drawSerial :=
  -- the counter alone has changed when the stale items go
  State.discardItems_stays (s.setStore { s.store with serial := wrapAdd32 s.store.serial 1 }) _

theorem State.meetFull_stays (s : State) (i : RegionId) (source : Option DropId) (h : Held) :
    s.RegionsStay (s.meetFull i source h) := by
  refine State.RegionsStay.trans ?_ (State.latch_touches _ _ _).stays
  split
  next hfree =>
    exact (State.updRegion_stays (Region.displace_stays (Bool.and_eq_true_iff.mp hfree).2 h)).trans
      (State.fillNamed_touches _ _).stays
  next => exact State.updRegion_stays (Region.refuseItem_stays _)

theorem State.countUnassigned_stays (s : State) (source : Option DropId) : s.RegionsStay (s.countUnassigned source) := by
  cases source with
  | some d => exact (s.updCounters_touches d _).stays
  | none => exact fun i => .refl (s.region i)

theorem State.admitItem_stays (s : State) (i : RegionId) (source : Option DropId) (h : Held) :
    s.RegionsStay (s.admitItem i source h) := by
  unfold State.admitItem
  split
  next => exact s.countUnassigned_stays source
  split
  next => exact State.updRegion_stays (Region.retireAtOnce_stays _)
  split
  next hroom =>
    exact (State.updRegion_stays (Region.join_stays hroom h)).trans (State.fillNamed_touches _ _).stays
  next => exact s.meetFull_stays i source h

theorem State.createItem_stays (s : State) (d : DropId) (item : ItemBody) : s.RegionsStay (s.createItem d item) :=
  s.drawSerial_stays.trans (State.admitItem_stays _ _ _ _)

theorem State.createPassCopy_stays (s : State) (item : ItemBody) (drops : DropMask) :
    s.RegionsStay (s.createPassCopy item drops) :=
  s.drawSerial_stays.trans (State.admitItem_stays _ _ _ _)

/-! ## Takes and lines -/

theorem State.closeWithCut_stays (s : State) (d : DropId) (reason : CloseReason) (p : Profile) (anchor : Int) :
    s.RegionsStay (s.closeWithCut d reason p anchor) :=
  (s.closeTake_touches d reason).stays.trans (State.createItem_stays _ d _)

theorem State.disableDrop_stays (s : State) (d : DropId) : s.RegionsStay (s.disableDrop d) :=
  ((s.updLine_touches d _).stays.trans (State.updDf_touches _ d _).stays).trans
    ((State.freeIntake_touches _ d).stays.trans (State.strip_stays _ _))

theorem State.goDormant_stays (s : State) (d : DropId) (p : Profile) (anchor : Int) :
    s.RegionsStay (s.goDormant d p anchor) :=
  (s.updLine_touches d _).stays.thenIf ((State.closeWithCut_stays _ d _ p anchor).trans (State.latch_touches _ _ _).stays)

theorem State.quietCount_stays (s : State) (d : DropId) (p : Profile) (anchor : Int) :
    s.RegionsStay (s.quietCount d p anchor) := by
  unfold State.quietCount
  refine (State.RegionsStay.refl s).thenIf ?_
  split
  · exact (s.updLine_touches d _).stays
  split
  · exact .refl s
  · exact (s.updLine_touches d _).stays.thenIf (State.goDormant_stays _ d p anchor)

theorem State.copySent_stays (s : State) (d : DropId) (serial : Nat) : s.RegionsStay (s.copySent d serial) :=
  ((s.updLine_touches d _).stays.trans (State.strip_stays _ _)).trans (State.fill_touches _ d).stays

theorem State.dropTransmitted_stays (s : State) (d : DropId) : s.RegionsStay (s.dropTransmitted d) := by
  unfold State.dropTransmitted
  split
  · exact (s.updLine_touches d _).stays
  · exact s.copySent_stays d _
  · exact .refl s

/-! ## Applies and boundary events (R54, R60) -/

theorem State.adoptProfile_stays (s : State) (d : DropId) (p : Profile) : s.RegionsStay (s.adoptProfile d p) :=
  ((s.updProfile_touches d _).stays.trans (State.updCadence_touches _ d _).stays).thenIf
    (State.closeWithCut_stays _ d _ _ _)

theorem State.settleEnabled_stays (s : State) (d : DropId) (old p : Profile) :
    s.RegionsStay (s.settleEnabled d old p) :=
  (((s.updCadence_touches d _).stays.trans (State.updLine_touches _ d _).stays).thenIf (State.strip_stays _ _)).trans
    ((State.applyDf_touches _ d _).stays.trans (State.fill_touches _ d).stays)

theorem State.applyProfile_stays (s : State) (d : DropId) (p : Profile) : s.RegionsStay (s.applyProfile d p) := by
  unfold State.applyProfile
  refine (s.adoptProfile_stays d p).trans ?_
  dsimp only
  split
  · exact State.settleEnabled_stays _ d _ p
  · exact (State.disableDrop_stays _ d).trans (State.updCadence_touches _ d _).stays

theorem State.finishBoundary_stays (s : State) (d : DropId) (n t boundary : Nat) (wasWaiting : Bool) (p : Profile)
    (anchor : Int) : s.RegionsStay (s.finishBoundary d n t boundary wasWaiting p anchor) :=
  ((s.placeFrame_touches d _).stays.trans (State.updDf_touches _ d _).stays).trans
    ((State.quietCount_stays _ d p anchor).trans (State.updCadence_touches _ d _).stays)

theorem State.boundaryEvent_stays (s : State) (d : DropId) : s.RegionsStay (s.boundaryEvent d) := by
  unfold State.boundaryEvent
  dsimp only
  split
  next p _ =>
    exact (((s.driveDf_touches d 0).stays.trans (State.followAgain_touches _ d).stays).trans
      (State.applyProfile_stays _ d p)).thenIf (State.finishBoundary_stays _ d _ _ _ _ _ _)
  next =>
    refine (s.followAgain_touches d).stays.trans ?_
    split
    · exact (State.applyAnchor_touches _ d).stays.trans (State.finishBoundary_stays _ d _ _ _ _ _ _)
    · exact (State.updCadence_touches _ d _).stays.trans (State.finishBoundary_stays _ d _ _ _ _ _ _)

/-! ## Completions at the intake (R109) -/

theorem State.buildSync_stays (s : State) (d : DropId) (j : Judged) (ds : List DropId) :
    s.RegionsStay (s.buildSync d j ds) := by
  unfold State.buildSync
  split
  · exact (s.latch_touches _ _).stays
  · have hnumber : s.RegionsStay (s.setStore { s.store with syncNumber := (s.store.syncNumber + 1) % 65536 }) :=
      fun i => .refl (s.region i)
    exact (hnumber.trans (.foldl (fun u x => (u.updTake_touches x _).stays) ds _)).trans (State.createItem_stays _ d _)

theorem State.completeRoll_stays (s : State) (d : DropId) (c : Converted) : s.RegionsStay (s.completeRoll d c) := by
  unfold State.completeRoll
  dsimp only
  -- from the end: the ROLL's own item, the take that opens, and a superseded take's CUT
  refine .after (State.updTake_touches _ d _).stays (.after (State.createItem_stays _ d _) ?_)
  refine .after (State.announceGuard_touches _).stays (.after (State.updTake_touches _ d _).stays ?_)
  exact (State.RegionsStay.refl s).thenIf ((s.updTake_touches d _).stays.trans (State.createItem_stays _ d _))

theorem State.completeCut_stays (s : State) (d : DropId) (c : Converted) : s.RegionsStay (s.completeCut d c) := by
  unfold State.completeCut
  split
  · exact (s.closeTake_touches d _).stays.trans (State.createItem_stays _ d _)
  · exact s.createItem_stays d _

theorem State.completeKind_stays (s : State) (d : DropId) (c : Converted) : s.RegionsStay (s.completeKind d c) := by
  unfold State.completeKind
  split
  · exact s.completeRoll_stays d c
  · exact s.completeCut_stays d c
  · exact (s.createItem_stays d _).trans (State.buildSync_stays _ d _ _)
  · exact s.createItem_stays d _
  · exact (s.setLabels_touches _).stays.trans (State.createItem_stays _ d _)

theorem State.completeStamp_stays (s : State) (d : DropId) (r : Received) : s.RegionsStay (s.completeStamp d r) := by
  unfold State.completeStamp
  split
  · exact (s.countMalformed_touches d).stays
  · split
    · exact s.completeKind_stays d _
    · exact (s.updCounters_touches d _).stays

theorem State.intakeComplete_stays (s : State) : s.RegionsStay s.intakeComplete := by
  unfold State.intakeComplete
  split
  · exact (s.setIntake_touches _).stays.trans (State.completeStamp_stays _ _ _)
  · exact .refl s

/-! ## The trunk (R136, R147, R160) -/

theorem State.foreignArrival_stays (s : State) (words : List Word) (k : RouteKind) (item : Option ItemBody) :
    s.RegionsStay (s.foreignArrival words k item) := by
  have hup : s.RegionsStay (if (s.lookup k (trunkSource words)).1 then s.enterUp words else s) :=
    (State.RegionsStay.refl s).thenIf (s.enterUp_touches words).stays
  unfold State.foreignArrival
  dsimp only
  split
  · exact (s.updSideCounters_touches _ _).stays
  cases item with
  | none => exact hup
  | some body => exact hup.thenIf (State.createPassCopy_stays _ body _)

theorem State.classify_stays (s : State) (side : Side) (words : List Word) (captured : Nat) :
    s.RegionsStay (s.classify side words captured) := by
  unfold State.classify
  split
  · exact (s.timePacketOnA_touches _ _).stays
  · exact (s.mgmtArrival_touches _ _).stays
  · exact (s.enterDown_touches _).stays
  · exact (s.misdirected_touches _).stays
  · exact s.foreignArrival_stays _ _ _
  · exact s.foreignArrival_stays _ _ _
  · exact (s.enterUp_touches _).stays
  · exact (s.enterUp_touches _).stays
  · exact (s.enterUp_touches _).stays
  · exact (s.mgmtArrival_touches _ _).stays
  · exact (s.misdirected_touches _).stays

theorem State.judgePacket_stays (s : State) (side : Side) (words : List Word) :
    s.RegionsStay (s.judgePacket side words) := by
  have hcounted (c : Receiver) (f : SideCounters → SideCounters) :
      s.RegionsStay ((s.setReceiver side c).updSideCounters side f) :=
    (s.setReceiver_touches side c).stays.trans (State.updSideCounters_touches _ side f).stays
  unfold State.judgePacket
  split
  · exact (hcounted _ _).trans (State.latch_touches _ _ _).stays
  split
  · exact (hcounted _ _).trans (State.latch_touches _ _ _).stays
  · exact (hcounted _ _).trans (State.classify_stays _ side words _)

theorem State.sideATransmitted_stays (s : State) : s.RegionsStay s.sideATransmitted := by
  unfold State.sideATransmitted
  split
  · exact .refl s
  next transmission _ =>
    have hcounted := (s.setTrunk_touches { s.trunk with transmissionA := none }).stays.trans
      (State.countTransmitted_touches _ .a).stays
    cases transmission with
    | item serial words => exact hcounted.trans (State.strip_stays _ _)
    | _ => exact hcounted

/-! ## Resets (R176, R177) -/

theorem State.applyAtTrunkReset_stays (s : State) (d : DropId) : s.RegionsStay (s.applyAtTrunkReset d) := by
  refine State.RegionsStay.trans ?_ (State.settleState_touches _ d).stays
  split
  · exact (s.driveDf_touches d _).stays.trans (State.applyProfile_stays _ d _)
  · split
    · exact (s.applyAnchor_touches d).stays
    · exact .refl s

theorem State.resetBlocks_stays (s : State) : s.RegionsStay s.resetBlocks :=
  State.updAllRegions_stays Region.resetByTrunk_stays s

theorem State.trunkReset_stays (s : State) : s.RegionsStay s.trunkReset :=
  ((s.updAllDrops_touches _).stays.trans (State.announceGuard_touches _).stays).trans
    ((State.resetBlocks_stays _).trans (.foldl State.applyAtTrunkReset_stays allDrops _))

theorem State.enterWaitingTrims_touches (s : State) (side : Side) :
    Touches [.trunk, .mgmt] s (s.enterWaitingTrims side) :=
  (((s.trimReplyEntry_touches side).trans (State.trimReplyEntry_touches _ side)).trans
    (State.trimReplyEntry_touches _ side)).trans (State.trimReplyEntry_touches _ side)

theorem State.trunkResetControl_stays (s : State) : s.RegionsStay s.trunkResetControl :=
  (s.trunkReset_stays.trans (State.enterWaitingTrims_touches _ .a).stays).trans
    (State.enterWaitingTrims_touches _ .b).stays

theorem State.dropReset_stays (s : State) (d : DropId) : s.RegionsStay (s.dropReset d) := by
  have hempty : s.RegionsStay (s.emptyDrop d) :=
    ((s.updDrop_touches d _).stays.trans (State.freeIntake_touches _ d).stays).trans
      ((State.discardItems_stays _ _).trans (State.strip_stays _ _))
  have hclose (u : State) : u.RegionsStay (u.closeAtDropReset d) := by
    unfold State.closeAtDropReset
    split
    · exact u.closeWithCut_stays d _ _ _
    · exact .refl u
  have happly (u : State) : u.RegionsStay (u.applyAtDropReset d) := by
    have hcadence := (u.updCadence_touches d (fun c => { c with pendingAnchor := false })).stays
    unfold State.applyAtDropReset
    dsimp only
    split
    · exact hcadence.trans (State.applyProfile_stays _ d _)
    · exact hcadence
  exact ((hempty.trans (hclose _)).trans (happly _)).trans (State.settleState_touches _ d).stays

/-! ## Commands of one effect that does not reach the store -/

theorem State.endPowerOnReset_store (s : State) (stn : BitVec 6) : (s.endPowerOnReset stn).store = s.store := rfl

theorem State.endPulse_store (s : State) (d : DropId) : (s.endPulse d).store = s.store := by
  unfold State.endPulse
  repeat' split
  all_goals rfl

theorem State.trunkStartBit_store (s : State) (side : Side) (k : DividerCount) :
    (s.trunkStartBit side k).store = s.store := by
  unfold State.trunkStartBit
  dsimp only
  split
  · exact State.updPort_store _ side _
  · rfl

theorem State.trunkLostSignal_store (s : State) (side : Side) : (s.trunkLostSignal side).store = s.store := by
  unfold State.trunkLostSignal
  split
  · exact (State.updPort_store _ side _).trans (s.updPort_store side _)
  · rfl

theorem State.trunkResynced_store (s : State) (side : Side) : (s.trunkResynced side).store = s.store := by
  unfold State.trunkResynced
  split
  · exact s.updPort_store side _
  · rfl

theorem State.sideBStart_store (s : State) (k : DividerCount) : (s.sideBStart k).store = s.store := by
  unfold State.sideBStart
  dsimp only
  split
  · exact (State.startOnB_touches _ k).store rfl
  · rfl

theorem State.sideBTransmitted_store (s : State) : s.sideBTransmitted.store = s.store := by
  unfold State.sideBTransmitted
  split
  · exact (State.countTransmitted_touches _ .b).store rfl
  · rfl

theorem State.headerMalformed_store (s : State) (d : DropId) (kind len : Word) :
    (s.headerMalformed d kind len).store = s.store := by
  unfold State.headerMalformed
  split <;> rfl

theorem State.dropResynced_store (s : State) (d : DropId) : (s.dropResynced d).store = s.store := by
  unfold State.dropResynced
  split <;> rfl

theorem State.receiveStalled_store (s : State) (d : DropId) : (s.receiveStalled d).store = s.store := by
  unfold State.receiveStalled
  split <;> rfl

theorem State.stampPacketComplete_store (s : State) (d : DropId) (words : List Word) :
    (s.stampPacketComplete d words).store = s.store := by
  unfold State.stampPacketComplete
  split
  · obtain ⟨hframe, -⟩ := s.onlyDropAndLatches_stampReceived d words
    rw [hframe]
  · rfl

theorem State.lineActivity_store (s : State) (d : DropId) (c : LineChange) : (s.lineActivity d c).store = s.store := by
  unfold State.lineActivity
  dsimp only
  split
  · split
    · exact (State.wake_touches _ d).store rfl
    · rfl
  · rfl

theorem State.lineStart_store (s : State) (d : DropId) : (s.lineStart d).store = s.store := by
  unfold State.lineStart
  repeat' split
  all_goals rfl

theorem State.transmitStalled_store (s : State) (d : DropId) : (s.transmitStalled d).store = s.store := by
  unfold State.transmitStalled
  split <;> rfl

theorem State.reportEmission_store (s : State) : s.reportEmission.store = s.store := by
  unfold State.reportEmission
  repeat' split
  all_goals rfl

theorem State.holdoffExpiry_store (s : State) : s.holdoffExpiry.store = s.store := by
  unfold State.holdoffExpiry
  split <;> rfl

theorem State.trimWritten_store (s : State) : s.trimWritten.store = s.store := by
  unfold State.trimWritten
  dsimp only
  repeat' split
  · exact (State.trimReply_touches _ _).store rfl
  all_goals rfl

theorem State.writePart_store (s : State) (p : PartRecord) : (s.writePart p).store = s.store := by
  unfold State.writePart
  split <;> rfl

theorem State.acceptProfile_store (s : State) (d : DropId) (p : Profile) : (s.acceptProfile d p).store = s.store := by
  unfold State.acceptProfile
  split
  · rfl
  · exact (s.loadDisabled_touches d p).store rfl

theorem State.reopenGate_store (s : State) : s.reopenGate.store = s.store := by
  unfold State.reopenGate
  split <;> rfl

theorem State.requestAnchor_store (s : State) (d : DropId) : (s.requestAnchor d).store = s.store := by
  unfold State.requestAnchor
  split <;> rfl

theorem State.resumeTracker_store (s : State) : s.resumeTracker.store = s.store := by
  unfold State.resumeTracker
  split <;> rfl

/-! ## Requests taken (R166, R167) -/

/-- A reply handed over reaches the ports and the management unit. -/
theorem Carried.answer_touches (c : Carried) (r : Request) : Touches [.trunk, .mgmt] c.state (c.answer r) := by
  unfold Carried.answer
  split
  · split
    · exact Touches.refl _ _
    · exact State.handOver_touches _ _
  · exact Touches.refl _ _

/-- Either no request is taken, or the head of the queue is carried out and answered. -/
theorem State.takeRequest_cases (s : State) (k : RequestKind) (carry : Request → State → Carried) :
    s.takeRequest k carry = s ∨ ∃ r rest,
      s.takeRequest k carry = (carry r (s.setMgmt { s.mgmt with queue := rest })).answer r := by
  unfold State.takeRequest
  split
  next r rest _ _ =>
    split
    · exact .inr ⟨r, rest, rfl⟩
    · exact .inl rfl
  next => exact .inl rfl

theorem State.takeRequest_stays {k : RequestKind} {carry : Request → State → Carried}
    (hcarry : ∀ (r : Request) (u : State), u.RegionsStay (carry r u).state) (s : State) :
    s.RegionsStay (s.takeRequest k carry) := by
  rcases s.takeRequest_cases k carry with hnone | ⟨r, rest, htaken⟩
  · rw [hnone]; exact .refl s
  · rw [htaken]
    exact ((s.setMgmt_touches _).stays.trans (hcarry r _)).trans (Carried.answer_touches _ r).stays

theorem carryLoad_stays {owner : Nat → List Word → State → Carried}
    (howner : ∀ i ws (u : State), u.RegionsStay (owner i ws u).state) (t : Table) (r : Request) (u : State) :
    u.RegionsStay (carryLoad t owner r u).state := by
  unfold carryLoad
  split
  · exact howner _ _ u
  · exact .refl u

theorem carryRead_stays (t : Table) (record : Nat → State → List Word) (r : Request) (u : State) :
    u.RegionsStay (carryRead t record r u).state := by
  unfold carryRead
  split <;> exact .refl u

theorem carryDropControl_stays {act : DropId → State → State} (hact : ∀ d (u : State), u.RegionsStay (act d u))
    (r : Request) (u : State) : u.RegionsStay (carryDropControl act r u).state := by
  unfold carryDropControl
  split
  · exact hact _ u
  · exact .refl u

theorem ownLoadProfile_stays (i : Nat) (ws : List Word) (u : State) :
    u.RegionsStay (ownLoadProfile i ws u).state := by
  unfold ownLoadProfile
  split
  · exact .refl u
  split
  · exact .refl u
  · exact .of_store (u.acceptProfile_store _ _)

theorem ownLoadRoute_stays (i : Nat) (ws : List Word) (u : State) : u.RegionsStay (ownLoadRoute i ws u).state := by
  unfold ownLoadRoute
  dsimp only
  split
  · exact .refl u
  split
  · exact .refl u
  · exact .of_store rfl

theorem carryStoreTrim_stays (r : Request) (u : State) : u.RegionsStay (carryStoreTrim r u).state := by
  unfold carryStoreTrim
  split
  · exact .refl u
  · exact .of_store rfl

/-! ## Every command but POWER_ON and LOAD_REGION -/

theorem whenRunning_stays {s t : State} {effect : State → State} (hexec : whenRunning s effect = .next t)
    (heffect : s.RegionsStay (effect s)) : s.RegionsStay t := by
  cases hexec
  split
  · exact .refl s
  · exact heffect

theorem whenRunning_takeRequest_stays {s t : State} {k : RequestKind} {carry : Request → State → Carried}
    (hexec : whenRunning s (fun s => s.takeRequest k carry) = .next t)
    (hcarry : ∀ (r : Request) (u : State), u.RegionsStay (carry r u).state) : s.RegionsStay t :=
  whenRunning_stays hexec (State.takeRequest_stays hcarry s)

theorem whenRunning_read_stays {s t : State} {table : Table} {record : Nat → State → List Word}
    (hexec : whenRunning s (fun s => s.takeRequest (.read table) (carryRead table record)) = .next t) :
    s.RegionsStay t :=
  whenRunning_takeRequest_stays hexec (carryRead_stays table record)

theorem whenRunning_control_stays {s t : State} {c : Control} {act : State → State}
    (hexec : whenRunning s (fun s => s.takeRequest (.control c) (carryControl act)) = .next t)
    (hact : ∀ u : State, u.RegionsStay (act u)) : s.RegionsStay t :=
  whenRunning_takeRequest_stays hexec (fun _ u => hact u)

theorem exec_stays {s t : State} {c : Instr} (hpower : c ≠ .powerOn) (hload : c ≠ .loadRegion)
    (hexec : exec c s = .next t) : s.RegionsStay t := by
  cases c with
  | powerOn => exact absurd rfl hpower
  | loadRegion => exact absurd rfl hload
  | powerOnResetEnd stn =>
    cases hexec
    exact (State.RegionsStay.refl s).thenIf (.of_store (s.endPowerOnReset_store stn))
  | epoch => exact whenRunning_stays hexec s.epoch_touches.stays
  | houseBoundaryEvent =>
    exact whenRunning_stays hexec ((State.RegionsStay.refl s).thenIf s.houseBoundary_touches.stays)
  | missingTimeExpiry => exact whenRunning_stays hexec s.missingTimeExpiry_touches.stays
  | dropBoundaryEvent d =>
    exact whenRunning_stays hexec ((State.RegionsStay.refl s).thenIf (s.boundaryEvent_stays d))
  | pulseEnd d => exact whenRunning_stays (effect := fun s => s.endPulse d) hexec (.of_store (s.endPulse_store d))
  | trunkPacketComplete side words =>
    exact whenRunning_stays hexec ((State.RegionsStay.refl s).thenIf (s.judgePacket_stays side words))
  | trunkLostSignal side => exact whenRunning_stays hexec (.of_store (s.trunkLostSignal_store side))
  | trunkResyncEnd side => exact whenRunning_stays hexec (.of_store (s.trunkResynced_store side))
  | sideATransmitStart =>
    exact whenRunning_stays hexec ((State.RegionsStay.refl s).thenIf s.startOnA_touches.stays)
  | sideATransmitComplete => exact whenRunning_stays hexec s.sideATransmitted_stays
  | sideBTransmitStart k =>
    exact whenRunning_stays (effect := fun s => s.sideBStart k) hexec (.of_store (s.sideBStart_store k))
  | sideBTransmitComplete => exact whenRunning_stays hexec (.of_store s.sideBTransmitted_store)
  | heldReplyEntry => exact whenRunning_stays hexec s.heldReplyEntry_touches.stays
  | trimReplyEntry side =>
    exact whenRunning_stays (effect := fun s => s.trimReplyEntry side) hexec
      (s.trimReplyEntry_touches side).stays
  | dropHeaderMalformed d kind len =>
    exact whenRunning_stays hexec (.of_store (s.headerMalformed_store d kind len))
  | dropResyncEnd d => exact whenRunning_stays hexec (.of_store (s.dropResynced_store d))
  | dropReceiveStall d => exact whenRunning_stays hexec (.of_store (s.receiveStalled_store d))
  | stampPacketComplete d words =>
    exact whenRunning_stays hexec (.of_store (s.stampPacketComplete_store d words))
  | dropActivity d change => exact whenRunning_stays hexec (.of_store (s.lineActivity_store d change))
  | lineArbiterStart d => exact whenRunning_stays hexec (.of_store (s.lineStart_store d))
  | dropTransmitComplete d =>
    exact whenRunning_stays (effect := fun s => s.dropTransmitted d) hexec (s.dropTransmitted_stays d)
  | dropTransmitStall d => exact whenRunning_stays hexec (.of_store (s.transmitStalled_store d))
  | intakeTake => exact whenRunning_stays hexec s.intakeTake_touches.stays
  | intakeComplete => exact whenRunning_stays hexec s.intakeComplete_stays
  | itemStale => exact whenRunning_stays hexec (s.discardItems_stays s.staleItems)
  | reportEmission => exact whenRunning_stays hexec (.of_store s.reportEmission_store)
  | holdoffExpiry => exact whenRunning_stays hexec (.of_store s.holdoffExpiry_store)
  | trimWriteComplete => exact whenRunning_stays hexec (.of_store s.trimWritten_store)
  | loadPart =>
    exact whenRunning_takeRequest_stays hexec
      (carryLoad_stays (fun _ _ u => .of_store (u.writePart_store _)) .part)
  | loadProfile => exact whenRunning_takeRequest_stays hexec (carryLoad_stays ownLoadProfile_stays .profile)
  | loadRoute => exact whenRunning_takeRequest_stays hexec (carryLoad_stays ownLoadRoute_stays .route)
  | loadUserBits =>
    exact whenRunning_takeRequest_stays hexec (carryLoad_stays (fun _ _ _ => .of_store rfl) .userBits)
  | readPart => exact whenRunning_read_stays hexec
  | readProfile => exact whenRunning_read_stays hexec
  | readRegion => exact whenRunning_read_stays hexec
  | readRoute => exact whenRunning_read_stays hexec
  | readUserBits => exact whenRunning_read_stays hexec
  | readTrackerStatus => exact whenRunning_read_stays hexec
  | readDropStatus => exact whenRunning_read_stays hexec
  | readStoreStatus => exact whenRunning_read_stays hexec
  | readTrunkStatus => exact whenRunning_read_stays hexec
  | readIdent => exact whenRunning_read_stays hexec
  | unknownRequest => exact whenRunning_takeRequest_stays hexec (fun _ u => .refl u)
  | reopen => exact whenRunning_control_stays hexec (fun u => .of_store u.reopenGate_store)
  | trunkReset => exact whenRunning_control_stays hexec State.trunkResetControl_stays
  | dropReset =>
    exact whenRunning_takeRequest_stays hexec (carryDropControl_stays (fun d u => u.dropReset_stays d))
  | anchor =>
    exact whenRunning_takeRequest_stays hexec
      (carryDropControl_stays (fun d u => .of_store (u.requestAnchor_store d)))
  | forceJam => exact whenRunning_control_stays hexec (fun _ => .of_store rfl)
  | hold => exact whenRunning_control_stays hexec (fun u => u.holdTracker_touches.stays)
  | resume => exact whenRunning_control_stays hexec (fun u => .of_store u.resumeTracker_store)
  | storeTrim => exact whenRunning_takeRequest_stays hexec carryStoreTrim_stays
  | trunkStartBit side k =>
    exact whenRunning_stays (effect := fun s => s.trunkStartBit side k) hexec
      (.of_store (s.trunkStartBit_store side k))
  | wordClockEdge d k => exact whenRunning_stays (effect := fun s => s.wordEdge d k) hexec (.of_store rfl)

/-! ## POWER_ON (R193) -/

/-- At power-on the pass region alone is assigned (R126). -/
theorem State.reset_assigned : ∀ i, (State.reset.region i).assigned = true → i = passRegion := by decide

theorem State.reset_regionsFit : State.reset.RegionsFit where
  apart i j slot hij hi hj := hij ((State.reset_assigned i hi.1).trans (State.reset_assigned j hj.1).symm)
  inStore i slot hi := by
    obtain ⟨hassigned, -, hslot⟩ := hi
    obtain rfl := State.reset_assigned i hassigned
    exact hslot
  within := by decide

theorem State.powerOn_regionsFit (s : State) : s.powerOn.RegionsFit :=
  (State.RegionsStay.of_store (s := .reset) (t := s.powerOn) rfl).regionsFit State.reset_regionsFit

/-! ## LOAD_REGION (R127) -/

@[simp] theorem RegionRecord.write_assigned (x : RegionRecord) (r : Region) : (x.write r).assigned = x.assigned := by
  unfold RegionRecord.write
  dsimp only
  split <;> rfl

@[simp] theorem RegionRecord.write_base (x : RegionRecord) (r : Region) : (x.write r).base = x.base := by
  unfold RegionRecord.write
  dsimp only
  split <;> rfl

@[simp] theorem RegionRecord.write_size (x : RegionRecord) (r : Region) : (x.write r).size = x.size := by
  unfold RegionRecord.write
  dsimp only
  split <;> rfl

@[simp] theorem RegionRecord.write_items (x : RegionRecord) (r : Region) : (x.write r).items = r.items := by
  unfold RegionRecord.write
  dsimp only
  split <;> rfl

theorem RegionRecord.write_owns_iff (x : RegionRecord) (r : Region) (slot : Nat) :
    (x.write r).owns slot ↔ x.assigned = true ∧ x.base ≤ slot ∧ slot < x.base + x.size := by
  simp [Region.owns]

/-- A size divides the 512 slots, so a base that it divides leaves room for it (R126). -/
theorem RegionRecord.end_le_of_inRange {x : RegionRecord} (hrange : x.inRange = true) (hassigned : x.assigned = true) :
    x.base + x.size ≤ 512 := by
  simp only [inRange, hassigned, Bool.not_true, Bool.false_or, Bool.and_eq_true, beq_iff_eq, decide_eq_true_eq,
    regionSizes, List.contains_iff_mem, List.mem_cons, List.not_mem_nil, or_false] at hrange
  obtain ⟨⟨hsize, hbase⟩, htop⟩ := hrange
  rcases hsize with h | h | h | h | h | h <;> rw [h] at hbase ⊢ <;> omega

/-- A record that leaves a region where it is keeps its size. -/
theorem RegionRecord.size_eq_of_not_moves {x : RegionRecord} {r : Region} (h : x.moves r = false) : x.size = r.size := by
  simp only [moves, Bool.or_eq_false_iff, bne_eq_false_iff_eq] at h
  exact h.2

theorem mem_allRegions (i : RegionId) : i ∈ allRegions := by revert i; decide

/-- A record that passes the judgement of overlap shares no slot with another region. -/
theorem State.not_owns_of_not_regionOverlaps {s : State} {i j : RegionId} {x : RegionRecord}
    (h : s.regionOverlaps i x = false) (hij : j ≠ i) (hassigned : x.assigned = true) {slot : Nat}
    (hlow : x.base ≤ slot) (hhigh : slot < x.base + x.size) : ¬ (s.region j).owns slot := by
  rintro ⟨hj, hjlow, hjhigh⟩
  simp only [regionOverlaps, hassigned, Bool.true_and, List.any_eq_false] at h
  have hmeet := h j (mem_allRegions j)
  simp only [runsMeet, hj, Bool.and_true, Bool.and_eq_true, bne_iff_ne, decide_eq_true_eq] at hmeet
  exact hmeet ⟨hij, by omega, by omega⟩

/-- Writing one region keeps the law where the region written fits among the others. -/
theorem State.RegionsFit.updRegion {s : State} {i : RegionId} {f : Region → Region} (hfit : s.RegionsFit)
    (hapart : ∀ j slot, j ≠ i → (f (s.region i)).owns slot → ¬ (s.region j).owns slot)
    (hstore : ∀ slot, (f (s.region i)).owns slot → slot < 512)
    (hwithin : (f (s.region i)).items.length ≤ (f (s.region i)).size) : (s.updRegion i f).RegionsFit where
  apart j k slot hjk hj hk := by
    by_cases hji : j = i
    · subst hji
      rw [State.region_updRegion_self] at hj
      rw [State.region_updRegion_ne s f (Ne.symm hjk)] at hk
      exact hapart k slot (Ne.symm hjk) hj hk
    rw [State.region_updRegion_ne s f hji] at hj
    by_cases hki : k = i
    · subst hki
      rw [State.region_updRegion_self] at hk
      exact hapart j slot hji hk hj
    · rw [State.region_updRegion_ne s f hki] at hk
      exact hfit.apart j k slot hjk hj hk
  inStore j slot hj := by
    by_cases hji : j = i
    · subst hji
      rw [State.region_updRegion_self] at hj
      exact hstore slot hj
    · rw [State.region_updRegion_ne s f hji] at hj
      exact hfit.inStore j slot hj
  within j := by
    by_cases hji : j = i
    · subst hji
      rw [State.region_updRegion_self]
      exact hwithin
    · rw [State.region_updRegion_ne s f hji]
      exact hfit.within j

/-- The judgements of R127 keep the law: the range within the store, BUSY what is held, OVERLAP the regions apart. -/
theorem ownLoadRegion_regionsFit {s : State} (hfit : s.RegionsFit) (i : Nat) (ws : List Word) :
    (ownLoadRegion i ws s).state.RegionsFit := by
  unfold ownLoadRegion
  generalize RegionRecord.ofWords ws = x
  dsimp only
  split
  next => exact hfit
  next hrange =>
  split
  next => exact hfit
  next hbusy =>
  split
  next => exact hfit
  next hoverlap =>
  simp only [Bool.not_eq_true, Bool.not_eq_false'] at hrange hoverlap
  refine hfit.updRegion (fun j slot hji hown => ?apart) (fun slot hown => ?inStore) ?within
  case apart =>
    obtain ⟨hassigned, hlow, hhigh⟩ := (x.write_owns_iff _ slot).mp hown
    exact State.not_owns_of_not_regionOverlaps hoverlap hji hassigned hlow hhigh
  case inStore =>
    obtain ⟨hassigned, -, hhigh⟩ := (x.write_owns_iff _ slot).mp hown
    exact hhigh.trans_le (RegionRecord.end_le_of_inRange hrange hassigned)
  case within =>
    rw [RegionRecord.write_items, RegionRecord.write_size]
    cases hitems : (s.region (regionOf i)).items with
    | nil => exact Nat.zero_le _
    | cons h rest =>
      have hmoves : x.moves (s.region (regionOf i)) = false := by simpa [hitems] using hbusy
      rw [RegionRecord.size_eq_of_not_moves hmoves, ← hitems]
      exact hfit.within (regionOf i)

theorem carryLoadRegion_regionsFit {s : State} (hfit : s.RegionsFit) (r : Request) :
    (carryLoad .region ownLoadRegion r s).state.RegionsFit := by
  unfold carryLoad
  split
  · exact ownLoadRegion_regionsFit hfit r.index r.record
  · exact hfit

theorem State.takeLoadRegion_regionsFit {s : State} (hfit : s.RegionsFit) :
    (s.takeRequest (.load .region) (carryLoad .region ownLoadRegion)).RegionsFit := by
  rcases s.takeRequest_cases (.load .region) (carryLoad .region ownLoadRegion) with hnone | ⟨r, rest, htaken⟩
  · rw [hnone]; exact hfit
  · rw [htaken]
    have hqueue : (s.setMgmt { s.mgmt with queue := rest }).RegionsFit := (s.setMgmt_touches _).stays.regionsFit hfit
    exact (Carried.answer_touches _ r).stays.regionsFit (carryLoadRegion_regionsFit hqueue r)

/-! ## Every command -/

theorem exec_regionsFit {s t : State} {c : Instr} (hfit : s.RegionsFit) (hexec : exec c s = .next t) :
    t.RegionsFit := by
  by_cases hpower : c = .powerOn
  · subst hpower
    cases hexec
    exact s.powerOn_regionsFit
  by_cases hload : c = .loadRegion
  · subst hload
    cases hexec
    split
    · exact hfit
    · exact State.takeLoadRegion_regionsFit hfit
  · exact (exec_stays hpower hload hexec).regionsFit hfit

end Sys2Proof.Machine

open Sys2Proof Sys2Proof.Machine

/-- Settles O36: LOAD_REGION judges what it writes, POWER_ON writes regions that fit, and under every other command the
regions stay. -/
theorem regionsFitKept : Obligations.RegionsFitKept := by
  intro s t hfit hstep
  unfold step at hstep
  split at hstep
  next => cases hstep; exact hfit
  next c rest _ =>
    have htaken : s.RegionsStay { s with pending := rest } := .of_store rfl
    exact exec_regionsFit (htaken.regionsFit hfit) hstep
end

section
/-! SUPPORT. R132 to R134: an item that meets its region full. One addition to a copy queue is said once, as a step from
one queue to the next; filling is four such steps, and filling the queues that a mask names fills each of them once, from
the store as it stands. -/

namespace Sys2Proof.Machine

/-! ## Items and flight -/

theorem mem_allDrops (d : DropId) : d ∈ allDrops := by revert d; decide

theorem State.sendingOnA_iff (s : State) (n : Nat) :
    s.sendingOnA n = true ↔ ∃ words, s.trunk.transmissionA = some (.item n words) := by
  unfold State.sendingOnA
  split
  next m words hsending => simp [hsending]
  next hother => simpa using hother n

theorem State.inFlight_iff (s : State) (n : Nat) : s.inFlight n = true ↔ s.InFlight n := by
  simp [State.inFlight, State.InFlight, State.sendingOnA_iff, mem_allDrops]

theorem Held.owed_iff (h : Held) : h.owed = true ↔ h.up = true ∨ h.drops ≠ 0#8 := by
  simp [Held.owed]

theorem oldestBy_eq_none_iff (age : Held → Nat) (l : List Held) : oldestBy age l = none ↔ l = [] := by
  cases l with
  | nil => simp [oldestBy]
  | cons a rest =>
    unfold oldestBy
    split
    · simp
    · split <;> simp

/-- The item found is of the list, and none of the list is older. -/
theorem oldestBy_spec {age : Held → Nat} {l : List Held} {x : Held} (h : oldestBy age l = some x) :
    x ∈ l ∧ ∀ y ∈ l, age y ≤ age x := by
  induction l generalizing x with
  | nil => cases h
  | cons a rest ih =>
    unfold oldestBy at h
    split at h
    next hnone =>
      obtain rfl := Option.some.inj h
      simp [(oldestBy_eq_none_iff age rest).mp hnone]
    next b hb =>
      obtain ⟨hmem, hmax⟩ := ih hb
      split at h <;> obtain rfl := Option.some.inj h
      next hle => exact ⟨List.mem_cons_self, List.forall_mem_cons.mpr ⟨le_rfl, fun y hy => (hmax y hy).trans hle⟩⟩
      next hlt =>
        exact ⟨List.mem_cons_of_mem a hmem, List.forall_mem_cons.mpr ⟨(not_le.mp hlt).le, hmax⟩⟩

/-! ## One addition to a copy queue (R134) -/

/-- One addition to the copy queue `q` of drop `d`: the oldest item owed to the drop and not in the queue joins at the
tail where the drop takes it, and the queue stays as it is where it is full, or no such item is held. -/
def State.CopyStep (s : State) (d : DropId) (q q' : List Nat) : Prop :=
  (∃ n, q' = q ++ [n] ∧ (s.drop d).GivenCopies ∧ q.length < 4 ∧ n ∉ q ∧ s.Owes d n
      ∧ ∀ m, s.Owes d m → m ∉ q → s.ageOf m ≤ s.ageOf n)
    ∨ (q' = q ∧ ∀ n, s.Owes d n → n ∉ q → (s.drop d).GivenCopies → 4 ≤ q.length)

/-- Drop `d` with another copy queue. -/
def State.withQueue (s : State) (d : DropId) (q : List Nat) : State :=
  s.updLine d (fun l => { l with copyQueue := q })

theorem State.withQueue_self (s : State) (d : DropId) : s.withQueue d (s.drop d).line.copyQueue = s :=
  s.updDrop_same d (fun x => { x with line := { x.line with copyQueue := (s.drop d).line.copyQueue } }) rfl

theorem State.withQueue_withQueue (s : State) (d : DropId) (q q' : List Nat) :
    (s.withQueue d q).withQueue d q' = s.withQueue d q' :=
  s.updLine_updLine d _ _

theorem State.drop_withQueue_self (s : State) (d : DropId) (q : List Nat) :
    (s.withQueue d q).drop d = { s.drop d with line := { (s.drop d).line with copyQueue := q } } :=
  s.drop_updLine_self d _

theorem State.drop_withQueue_ne (s : State) {d e : DropId} (q : List Nat) (h : e ≠ d) :
    (s.withQueue d q).drop e = s.drop e :=
  s.drop_updDrop_ne _ h

theorem State.withQueue_givenCopies (s : State) (d : DropId) (q : List Nat) :
    ((s.withQueue d q).drop d).GivenCopies ↔ (s.drop d).GivenCopies := by
  rw [State.drop_withQueue_self]
  rfl

theorem State.takesCopies_iff (s : State) (d : DropId) :
    s.takesCopies d = true ↔ (s.drop d).GivenCopies ∧ (s.drop d).line.copyQueue.length < 4 := by
  simp only [State.takesCopies, Drop.GivenCopies, Bool.and_eq_true, beq_iff_eq, decide_eq_true_eq, and_assoc]
  rfl

/-- What the scheduler may choose from: the items owed to the drop that its queue does not hold. -/
theorem State.mem_copyable_iff (s : State) (d : DropId) (h : Held) :
    h ∈ s.heldItems.filter (fun h => names h.drops d && !(s.drop d).line.copyQueue.contains h.serial) ↔
      h ∈ s.heldItems ∧ names h.drops d = true ∧ h.serial ∉ (s.drop d).line.copyQueue := by
  simp

theorem State.nextCopy_eq_some {s : State} {d : DropId} {h : Held} (hnext : s.nextCopy d = some h) :
    h.serial ∉ (s.drop d).line.copyQueue ∧ s.Owes d h.serial
      ∧ ∀ m, s.Owes d m → m ∉ (s.drop d).line.copyQueue → s.ageOf m ≤ s.ageOf h.serial := by
  obtain ⟨hmem, hmax⟩ := oldestBy_spec hnext
  obtain ⟨hheld, hnames, hnew⟩ := (s.mem_copyable_iff d h).mp hmem
  refine ⟨hnew, ⟨h, hheld, rfl, hnames⟩, ?_⟩
  rintro _ ⟨g, hg, rfl, hgnames⟩ hgnew
  exact hmax g ((s.mem_copyable_iff d g).mpr ⟨hg, hgnames, hgnew⟩)

theorem State.nextCopy_eq_none {s : State} {d : DropId} (hnext : s.nextCopy d = none) :
    ∀ n, s.Owes d n → n ∈ (s.drop d).line.copyQueue := by
  rintro _ ⟨g, hg, rfl, hgnames⟩
  by_contra hgnew
  have hmem := (s.mem_copyable_iff d g).mpr ⟨hg, hgnames, hgnew⟩
  rw [(oldestBy_eq_none_iff _ _).mp hnext] at hmem
  cases hmem

theorem State.fillOne_spec (s : State) (d : DropId) :
    ∃ q, s.fillOne d = s.withQueue d q ∧ s.CopyStep d (s.drop d).line.copyQueue q := by
  unfold State.fillOne
  split
  next htakes =>
    obtain ⟨hgiven, hroom⟩ := (s.takesCopies_iff d).mp htakes
    split
    next h hnext =>
      obtain ⟨hnew, howes, holdest⟩ := State.nextCopy_eq_some hnext
      exact ⟨_, rfl, .inl ⟨h.serial, rfl, hgiven, hroom, hnew, howes, holdest⟩⟩
    next hnext =>
      exact ⟨_, (s.withQueue_self d).symm, .inr ⟨rfl, fun n howes hnew =>
        absurd (State.nextCopy_eq_none hnext n howes) hnew⟩⟩
  next htakes =>
    refine ⟨_, (s.withQueue_self d).symm, .inr ⟨rfl, fun n _ _ hgiven => ?_⟩⟩
    by_contra hroom
    exact htakes ((s.takesCopies_iff d).mpr ⟨hgiven, not_le.mp hroom⟩)

/-! ## Filling one copy queue (R134) -/

/-- The queue `q` filled by at most `k` additions: as `State.Filled`, but that a queue of fewer than four that misses an
item may also have taken all `k`. -/
def State.FilledBy (s : State) (d : DropId) (k : Nat) (q q' : List Nat) : Prop :=
  ∃ more, q' = q ++ more
    ∧ (more ≠ [] → (s.drop d).GivenCopies ∧ q'.length ≤ 4)
    ∧ (∀ n ∈ more, n ∉ q ∧ s.Owes d n)
    ∧ more.Pairwise (fun m n => m ≠ n ∧ s.ageOf n ≤ s.ageOf m)
    ∧ ∀ n, s.Owes d n → n ∉ q' →
        (∀ m ∈ more, s.ageOf n ≤ s.ageOf m) ∧ ((s.drop d).GivenCopies → 4 ≤ q'.length ∨ k ≤ more.length)

theorem State.filledBy_zero (s : State) (d : DropId) (q : List Nat) : s.FilledBy d 0 q q :=
  ⟨[], by simp⟩

/-- Four additions fill the queue. -/
theorem State.FilledBy.filled {s : State} {d : DropId} {q q' : List Nat} (h : s.FilledBy d 4 q q') :
    s.Filled d q q' := by
  obtain ⟨more, rfl, hroom, howed, hsorted, hrest⟩ := h
  refine ⟨more, rfl, hroom, howed, hsorted, fun n howes hnew => ⟨(hrest n howes hnew).1, fun hgiven => ?_⟩⟩
  rcases (hrest n howes hnew).2 hgiven with hfull | hall
  · exact hfull
  · rw [List.length_append]
    omega

theorem State.FilledBy.step {s : State} {d : DropId} {k : Nat} {q q' q'' : List Nat} (h : s.FilledBy d k q q')
    (hstep : s.CopyStep d q' q'') : s.FilledBy d (k + 1) q q'' := by
  obtain ⟨more, rfl, hroom, howed, hsorted, hrest⟩ := h
  rcases hstep with ⟨n, rfl, hgiven, hlen, hnew, howes, holdest⟩ | ⟨rfl, hdone⟩
  · obtain ⟨hnotq, hnotmore⟩ := not_or.mp (List.mem_append.not.mp hnew)
    have hyounger : ∀ m ∈ more, s.ageOf n ≤ s.ageOf m := (hrest n howes hnew).1
    refine ⟨more ++ [n], List.append_assoc .., fun _ => ⟨hgiven, (List.length_append ..).trans_le hlen⟩,
      ?owed, ?sorted, ?rest⟩
    case owed =>
      intro m hm
      rcases List.mem_append.mp hm with hm | hm
      · exact howed m hm
      · obtain rfl := List.mem_singleton.mp hm
        exact ⟨hnotq, howes⟩
    case sorted =>
      refine List.pairwise_append.mpr ⟨hsorted, List.pairwise_singleton _ _, fun m hm x hx => ?_⟩
      obtain rfl := List.mem_singleton.mp hx
      exact ⟨fun heq => hnotmore (heq ▸ hm), hyounger m hm⟩
    case rest =>
      intro m hm hmnew
      have hmnew' : m ∉ q ++ more := fun hmem => hmnew (List.mem_append_left _ hmem)
      obtain ⟨hages, hcount⟩ := hrest m hm hmnew'
      refine ⟨?_, fun _ => .inr ?_⟩
      · intro x hx
        rcases List.mem_append.mp hx with hx | hx
        · exact hages x hx
        · obtain rfl := List.mem_singleton.mp hx
          exact holdest m hm hmnew'
      · rcases hcount hgiven with hfull | hk
        · omega
        · simpa using hk
  · exact ⟨more, rfl, hroom, howed, hsorted, fun n howes hnew =>
      ⟨(hrest n howes hnew).1, fun hgiven => .inl (hdone n howes hnew hgiven)⟩⟩

/-- What is owed to a drop and how old it is stand in the store, so what fills its queue is the same where they are. -/
theorem State.CopyStep.congr {s t : State} {d : DropId} {q q' : List Nat} (h : s.CopyStep d q q')
    (hstore : t.store = s.store) (hgiven : (t.drop d).GivenCopies ↔ (s.drop d).GivenCopies) : t.CopyStep d q q' := by
  simpa only [State.CopyStep, State.Owes, State.ageOf, State.heldItems, hstore, hgiven] using h

theorem State.Filled.congr {s t : State} {d : DropId} {q q' : List Nat} (h : s.Filled d q q')
    (hstore : t.store = s.store) (hgiven : (t.drop d).GivenCopies ↔ (s.drop d).GivenCopies) : t.Filled d q q' := by
  simpa only [State.Filled, State.Owes, State.ageOf, State.heldItems, hstore, hgiven] using h

theorem State.FilledFrom.congr {s t : State} {d : DropId} {x : Drop} (h : s.FilledFrom d x)
    (hstore : t.store = s.store) (hdrop : t.drop d = s.drop d) : t.FilledFrom d x := by
  obtain ⟨q, hq, hfilled⟩ := h
  exact ⟨q, hdrop.trans hq, hfilled.congr hstore (by rw [hdrop])⟩

theorem State.FilledIfNamed.congr {s t : State} {m : DropMask} {d : DropId} {x : Drop}
    (h : s.FilledIfNamed m d x) (hstore : t.store = s.store) (hdrop : t.drop d = s.drop d) : t.FilledIfNamed m d x := by
  unfold State.FilledIfNamed at h ⊢
  split at h
  next hnamed => rw [if_pos hnamed]; exact State.FilledFrom.congr h hstore hdrop
  next hnamed => rw [if_neg hnamed]; exact hdrop.trans h

theorem State.fillOne_withQueue (s : State) (d : DropId) (q : List Nat) :
    ∃ q', (s.withQueue d q).fillOne d = s.withQueue d q' ∧ s.CopyStep d q q' := by
  obtain ⟨q', hfill, hstep⟩ := (s.withQueue d q).fillOne_spec d
  rw [State.withQueue_withQueue] at hfill
  rw [State.drop_withQueue_self] at hstep
  exact ⟨q', hfill, hstep.congr rfl (s.withQueue_givenCopies d q).symm⟩

theorem State.iterate_fillOne (s : State) (d : DropId) (k : Nat) :
    ∃ q, (State.fillOne · d)^[k] s = s.withQueue d q ∧ s.FilledBy d k (s.drop d).line.copyQueue q := by
  induction k with
  | zero => exact ⟨_, (s.withQueue_self d).symm, s.filledBy_zero d _⟩
  | succ k ih =>
    obtain ⟨q, hq, hfilled⟩ := ih
    obtain ⟨q', hfill, hstep⟩ := s.fillOne_withQueue d q
    refine ⟨q', ?_, hfilled.step hstep⟩
    rw [Function.iterate_succ_apply', hq, hfill]

theorem State.fill_spec (s : State) (d : DropId) :
    ∃ q, s.fill d = s.withQueue d q ∧ s.Filled d (s.drop d).line.copyQueue q := by
  obtain ⟨q, hfill, hfilled⟩ := s.iterate_fillOne d 4
  exact ⟨q, hfill, hfilled.filled⟩

theorem State.drop_fill_ne (s : State) {d e : DropId} (h : e ≠ d) : (s.fill d).drop e = s.drop e := by
  obtain ⟨q, hfill, -⟩ := s.fill_spec d
  rw [hfill, State.drop_withQueue_ne s q h]

theorem State.fill_filledFrom (s : State) (d : DropId) : (s.fill d).FilledFrom d (s.drop d) := by
  obtain ⟨q, hfill, hfilled⟩ := s.fill_spec d
  rw [hfill]
  exact ⟨q, s.drop_withQueue_self d q, hfilled.congr rfl (s.withQueue_givenCopies d q)⟩

/-! ## Filling the queues that a mask names -/

/-- Filling where the mask names the drop. -/
def State.fillIfNamed (m : DropMask) (s : State) (d : DropId) : State := if names m d then s.fill d else s

theorem State.fillNamed_eq (s : State) (m : DropMask) : s.fillNamed m = allDrops.foldl (State.fillIfNamed m) s := rfl

theorem State.fillIfNamed_touches (m : DropMask) (s : State) (d : DropId) :
    Touches [.drops] s (State.fillIfNamed m s d) := by
  unfold State.fillIfNamed
  split
  · exact s.fill_touches d
  · exact Touches.refl _ s

theorem State.drop_fillIfNamed_ne (m : DropMask) (s : State) {d e : DropId} (h : e ≠ d) :
    (State.fillIfNamed m s d).drop e = s.drop e := by
  unfold State.fillIfNamed
  split
  · exact s.drop_fill_ne h
  · rfl

theorem State.fillIfNamed_filled (m : DropMask) (s : State) (d : DropId) :
    (State.fillIfNamed m s d).FilledIfNamed m d (s.drop d) := by
  unfold State.fillIfNamed State.FilledIfNamed
  split
  · exact s.fill_filledFrom d
  · rfl

theorem State.drop_foldl_fillIfNamed (m : DropMask) {e : DropId} {l : List DropId} (hl : e ∉ l) (s : State) :
    (l.foldl (State.fillIfNamed m) s).drop e = s.drop e := by
  induction l generalizing s with
  | nil => rfl
  | cons d l ih =>
    obtain ⟨hed, hel⟩ := not_or.mp (List.mem_cons.not.mp hl)
    exact (ih hel _).trans (State.drop_fillIfNamed_ne m s hed)

/-- Each drop is filled once: the drops before it and after it leave its queue alone. -/
theorem State.foldl_fillIfNamed_filled (m : DropMask) {e : DropId} {l : List DropId} (hnodup : l.Nodup) (he : e ∈ l)
    (s : State) : (l.foldl (State.fillIfNamed m) s).FilledIfNamed m e (s.drop e) := by
  induction l generalizing s with
  | nil => cases he
  | cons d l ih =>
    obtain ⟨hd, hl⟩ := List.nodup_cons.mp hnodup
    rcases List.mem_cons.mp he with rfl | hel
    · exact (State.fillIfNamed_filled m s e).congr ((Touches.foldl (State.fillIfNamed_touches m) l _).store rfl)
        (State.drop_foldl_fillIfNamed m hd _)
    · have hne : e ≠ d := fun heq => hd (heq ▸ hel)
      rw [← State.drop_fillIfNamed_ne m s hne]
      exact ih hl hel _

theorem State.fillNamed_filled (s : State) (m : DropMask) (e : DropId) :
    (s.fillNamed m).FilledIfNamed m e (s.drop e) := by
  rw [State.fillNamed_eq]
  exact State.foldl_fillIfNamed_filled m (by decide) (mem_allDrops e) s

/-! ## An item that meets its region full (R132, R133) -/

theorem Touches.eq_of_drops {s t : State} (h : Touches [.drops] s t) : t = { s with drops := t.drops } := by
  cases s
  cases t
  simp only [State.mk.injEq, true_and]
  exact ⟨h.inReset rfl, h.clock rfl, h.house rfl, h.trim rfl, h.tracker rfl, h.part rfl, h.intake rfl, h.labels rfl,
    h.store rfl, h.trunk rfl, h.mgmt rfl, h.reports rfl, h.pending rfl⟩

theorem State.admitItem_of_full {s : State} {i : RegionId} {h : Held} (source : Option DropId)
    (hassigned : (s.region i).assigned = true) (howed : h.up = true ∨ h.drops ≠ 0#8)
    (hfull : (s.region i).size ≤ (s.region i).items.length) : s.admitItem i source h = s.meetFull i source h := by
  simp [State.admitItem, hassigned, (Held.owed_iff h).mpr howed, not_lt.mpr hfull]

/-- An item displaces another only under REPLACE_OLDEST, and only one that is not in flight. -/
theorem State.displaces_iff (s : State) (r : Region) :
    (r.policy == .replaceOldest && r.items.any (fun x => !s.inFlight x.serial)) = true ↔
      r.policy = .replaceOldest ∧ ∃ x ∈ r.items, ¬ s.InFlight x.serial := by
  simp [← State.inFlight_iff]

theorem State.meetFull_of_refused {s : State} {i : RegionId} (source : Option DropId) (h : Held)
    (hrefused : (s.region i).policy = .refuse ∨ ∀ x ∈ (s.region i).items, s.InFlight x.serial) :
    s.meetFull i source h = (s.updRegion i Region.refuseItem).latch .regionFull source := by
  refine congrArg (State.latch · .regionFull source) (if_neg fun hdisplaces => ?_)
  obtain ⟨hpolicy, x, hx, hfree⟩ := (s.displaces_iff _).mp hdisplaces
  rcases hrefused with hrefuse | hflying
  · rw [hrefuse] at hpolicy
    cases hpolicy
  · exact hfree (hflying x hx)

theorem State.meetFull_of_displaced {s : State} {i : RegionId} (source : Option DropId) (h : Held)
    (hpolicy : (s.region i).policy = .replaceOldest) (hfree : ∃ x ∈ (s.region i).items, ¬ s.InFlight x.serial) :
    s.meetFull i source h =
      ((s.updRegion i (Region.displace s.inFlight h)).fillNamed h.drops).latch .regionFull source :=
  congrArg (State.latch · .regionFull source) (if_pos ((s.displaces_iff _).mpr ⟨hpolicy, hfree⟩))

/-- Whatever the policy, the item's region alone changes and REGION_FULL is latched. -/
theorem State.meetFull_latches (s : State) (i : RegionId) (source : Option DropId) (h : Held) :
    ∃ u : State, s.meetFull i source h = u.latch .regionFull source ∧ u.reports = s.reports
      ∧ ∀ j, j ≠ i → u.region j = s.region j := by
  by_cases hdisplaces : (s.region i).policy = .replaceOldest ∧ ∃ x ∈ (s.region i).items, ¬ s.InFlight x.serial
  · obtain ⟨hpolicy, hfree⟩ := hdisplaces
    have htouches := (s.updRegion i (Region.displace s.inFlight h)).fillNamed_touches h.drops
    exact ⟨_, State.meetFull_of_displaced source h hpolicy hfree, htouches.reports rfl,
      fun j hj => (htouches.region rfl j).trans (s.region_updRegion_ne _ hj)⟩
  · refine ⟨_, State.meetFull_of_refused source h ?_, rfl, fun j hj => s.region_updRegion_ne _ hj⟩
    cases hpolicy : (s.region i).policy with
    | refuse => exact .inl rfl
    | replaceOldest => exact .inr (by simpa [hpolicy] using hdisplaces)

theorem LatchedExactly.of_reports {cs : List Cause} {d : Option DropId} {s u t : State} (hreports : u.reports = s.reports)
    (h : LatchedExactly cs d u t) : LatchedExactly cs d s t := by
  simpa only [LatchedExactly, State.latchOf, hreports] using h

/-- The first item that is not in flight leaves, and the newcomer joins as the newest (R133). -/
theorem Region.displace_items {r : Region} {inFlight : Nat → Bool} {before after : List Held} {x : Held} (h : Held)
    (hitems : r.items = before ++ x :: after) (hbefore : ∀ y ∈ before, inFlight y.serial = true)
    (hx : inFlight x.serial = false) : (r.displace inFlight h).items = before ++ after ++ [h] := by
  have hflying : ∀ y ∈ before, ¬ (!inFlight y.serial) = true := fun y hy => by simp [hbefore y hy]
  simp only [displace, hitems, List.eraseP_append_right (x :: after) hflying]
  rw [List.eraseP_cons_of_pos (by simp [hx])]

end Sys2Proof.Machine

open Sys2Proof Sys2Proof.Machine

/-- Settles O33: the policy and flight decide between one update of the region and another, and after a displacement the
queues that the newcomer names are filled. -/
theorem refusingRegionTurnsAway : Obligations.RefusingRegionTurnsAway := by
  rintro s t i source h r - rfl rfl hassigned howed hfull
  rw [State.admitItem_of_full source hassigned howed hfull]
  obtain ⟨u, hu, hreports, hothers⟩ := s.meetFull_latches i source h
  refine ⟨?latched, ?others, fun hrefused => ?refused, fun before x after hpolicy hitems hbefore hx => ?displaced⟩
  case latched =>
    rw [hu]
    exact (u.latch_spec _ _).of_reports hreports
  case others =>
    rw [hu]
    exact hothers
  case refused =>
    rw [State.meetFull_of_refused source h hrefused]
    exact ⟨rfl, s.region_updRegion_self i _⟩
  case displaced =>
    have hfree : ∃ y ∈ (s.region i).items, ¬ s.InFlight y.serial := ⟨x, by simp [hitems], hx⟩
    have hnewItems := Region.displace_items (inFlight := s.inFlight) h hitems
      (fun y hy => (s.inFlight_iff _).mpr (hbefore y hy)) (Bool.eq_false_iff.mpr ((s.inFlight_iff _).not.mpr hx))
    rw [State.meetFull_of_displaced source h hpolicy hfree]
    have htouches := (s.updRegion i (Region.displace s.inFlight h)).fillNamed_touches h.drops
    refine ⟨?frame, ?region, fun e => ?queues⟩
    case frame =>
      rw [htouches.eq_of_drops]
      rfl
    case region =>
      refine (htouches.region rfl i).trans ((s.region_updRegion_self i _).trans ?_)
      rw [← hnewItems]
      rfl
    case queues =>
      have hfilled := (s.updRegion i (Region.displace s.inFlight h)).fillNamed_filled h.drops e
      rw [State.drop_eq_of_drops (s.updRegion_drops i _) e] at hfilled
      exact hfilled.congr (State.latch_store _ _ _) (State.drop_eq_of_drops (State.latch_drops _ _ _) e)
end

section
/-! SUPPORT. What a command does, said once: `effectOf` names the effect of each command while the part runs, and `blocksOf`
the blocks of the state that the effect can change. A law of the state is then proved for the few effects that reach what it
speaks of. -/

namespace Sys2Proof.Machine

/- One proof after another: a thread for each would take more memory than a check has. -/
set_option Elab.async false

/-! ## The effect of each command -/

/-- The effect of a command that the part takes. -/
def effectOf : Instr → State → State
  | .powerOn, s => s.powerOn
  | .powerOnResetEnd stn, s => if s.inReset then s.endPowerOnReset stn else s
  | .epoch, s => s.epoch
  | .houseBoundaryEvent, s => if s.house.boundary ≤ s.clock.time then s.houseBoundary else s
  | .missingTimeExpiry, s => s.missingTimeExpiry
  | .dropBoundaryEvent d, s => if s.boundaryOutstanding d then s.boundaryEvent d else s
  | .pulseEnd d, s => s.endPulse d
  | .trunkPacketComplete side words, s => s.trunkPacketComplete side words
  | .trunkLostSignal side, s => s.trunkLostSignal side
  | .trunkResyncEnd side, s => s.trunkResynced side
  | .sideATransmitStart, s => if s.trunk.transmissionA.isNone then s.startOnA else s
  | .sideATransmitComplete, s => s.sideATransmitted
  | .sideBTransmitStart k, s => s.sideBStart k
  | .sideBTransmitComplete, s => s.sideBTransmitted
  | .heldReplyEntry, s => s.heldReplyEntry
  | .trimReplyEntry side, s => s.trimReplyEntry side
  | .dropHeaderMalformed d kind len, s => s.headerMalformed d kind len
  | .dropResyncEnd d, s => s.dropResynced d
  | .dropReceiveStall d, s => s.receiveStalled d
  | .stampPacketComplete d words, s => s.stampPacketComplete d words
  | .dropActivity d change, s => s.lineActivity d change
  | .lineArbiterStart d, s => s.lineStart d
  | .dropTransmitComplete d, s => s.dropTransmitted d
  | .dropTransmitStall d, s => s.transmitStalled d
  | .intakeTake, s => s.intakeTake
  | .intakeComplete, s => s.intakeComplete
  | .itemStale, s => s.discardStale
  | .reportEmission, s => s.reportEmission
  | .holdoffExpiry, s => s.holdoffExpiry
  | .trimWriteComplete, s => s.trimWritten
  | .loadPart, s => s.takeRequest (.load .part) (carryLoad .part ownLoadPart)
  | .loadProfile, s => s.takeRequest (.load .profile) (carryLoad .profile ownLoadProfile)
  | .loadRegion, s => s.takeRequest (.load .region) (carryLoad .region ownLoadRegion)
  | .loadRoute, s => s.takeRequest (.load .route) (carryLoad .route ownLoadRoute)
  | .loadUserBits, s => s.takeRequest (.load .userBits) (carryLoad .userBits ownLoadUserBits)
  | .readPart, s => s.takeRequest (.read .part) (carryRead .part (fun i s => s.tableRecord .part i))
  | .readProfile, s => s.takeRequest (.read .profile) (carryRead .profile (fun i s => s.tableRecord .profile i))
  | .readRegion, s => s.takeRequest (.read .region) (carryRead .region (fun i s => s.tableRecord .region i))
  | .readRoute, s => s.takeRequest (.read .route) (carryRead .route (fun i s => s.tableRecord .route i))
  | .readUserBits, s => s.takeRequest (.read .userBits) (carryRead .userBits (fun i s => s.tableRecord .userBits i))
  | .readTrackerStatus, s =>
    s.takeRequest (.read .trackerStatus) (carryRead .trackerStatus (fun i s => s.tableRecord .trackerStatus i))
  | .readDropStatus, s =>
    s.takeRequest (.read .dropStatus) (carryRead .dropStatus (fun i s => s.tableRecord .dropStatus i))
  | .readStoreStatus, s =>
    s.takeRequest (.read .storeStatus) (carryRead .storeStatus (fun i s => s.tableRecord .storeStatus i))
  | .readTrunkStatus, s =>
    s.takeRequest (.read .trunkStatus) (carryRead .trunkStatus (fun i s => s.tableRecord .trunkStatus i))
  | .readIdent, s => s.takeRequest (.read .ident) (carryRead .ident (fun i s => s.tableRecord .ident i))
  | .unknownRequest, s => s.takeRequest .unknown (fun _ s => refuseWith s .unknown)
  | .reopen, s => s.takeRequest (.control .reopen) (carryControl State.reopenGate)
  | .trunkReset, s => s.takeRequest (.control .trunkReset) (carryControl State.trunkResetControl)
  | .dropReset, s => s.takeRequest (.control .dropReset) (carryDropControl (fun d s => s.dropReset d))
  | .anchor, s => s.takeRequest (.control .anchor) (carryDropControl (fun d s => s.requestAnchor d))
  | .forceJam, s => s.takeRequest (.control .forceJam) (carryControl State.requestJam)
  | .hold, s => s.takeRequest (.control .hold) (carryControl State.holdTracker)
  | .resume, s => s.takeRequest (.control .resume) (carryControl State.resumeTracker)
  | .storeTrim, s => s.takeRequest (.control .storeTrim) carryStoreTrim
  | .trunkStartBit side k, s => s.trunkStartBit side k
  | .wordClockEdge d k, s => s.wordEdge d k

/-- The two events of R193, which are taken while power-on reset lasts. -/
def Instr.ofPowerOn : Instr → Bool
  | .powerOn => true
  | .powerOnResetEnd _ => true
  | _ => false

/-- Every other command has its effect out of power-on reset alone. -/
theorem exec_eq_whenRunning {c : Instr} (h : Instr.ofPowerOn c = false) (s : State) :
    exec c s = whenRunning s (effectOf c) := by
  cases c with
  | powerOn => cases h
  | powerOnResetEnd => cases h
  | _ => rfl

theorem exec_running {c : Instr} {s : State} (hrun : s.inReset = false) (h : Instr.ofPowerOn c = false := by rfl) :
    exec c s = .next (effectOf c s) := by
  rw [exec_eq_whenRunning h, whenRunning_running _ hrun]

/-- A command that answers a next state has had its effect, or none. -/
theorem exec_cases {c : Instr} {s t : State} (h : exec c s = .next t) : t = s ∨ t = effectOf c s := by
  by_cases hpower : Instr.ofPowerOn c = true
  · cases c with
    | powerOn => cases h; exact .inr rfl
    | powerOnResetEnd => cases h; exact .inr rfl
    | _ => cases hpower
  · rw [exec_eq_whenRunning (Bool.eq_false_of_not_eq_true hpower)] at h
    cases h
    split
    · exact .inl rfl
    · exact .inr rfl

/-- A law that does not speak of the queue of waiting commands is kept by every step once it is kept by every effect. -/
theorem keptByStep {P : State → Prop} (hpending : ∀ (s : State) rest, P s → P { s with pending := rest })
    (heffect : ∀ c s, P s → P (effectOf c s)) {s t : State} (h : P s) (hstep : step s = .next t) : P t := by
  unfold step at hstep
  split at hstep
  next => cases hstep; exact h
  next c rest _ =>
    rcases exec_cases hstep with rfl | rfl
    · exact hpending s rest h
    · exact heffect c _ (hpending s rest h)

/-! ## The blocks that each command can change -/

/-- The blocks that the effect of a command can change. -/
def blocksOf : Instr → List Block
  | .powerOn => [.inReset, .clock, .house, .trim, .tracker, .part, .drops, .intake, .labels, .store, .trunk, .mgmt, .reports]
  | .powerOnResetEnd _ => [.inReset, .clock, .tracker, .trunk]
  | .epoch => [.clock, .tracker, .drops]
  | .houseBoundaryEvent => [.house, .trunk, .reports]
  | .missingTimeExpiry => [.clock, .tracker, .reports]
  | .dropBoundaryEvent _ => [.tracker, .drops, .intake, .store, .reports]
  | .trunkPacketComplete _ _ => [.clock, .house, .tracker, .drops, .store, .trunk, .mgmt, .reports]
  | .trunkLostSignal _ => [.trunk, .reports]
  | .trunkResyncEnd _ | .sideATransmitStart | .sideBTransmitComplete => [.trunk]
  | .sideATransmitComplete => [.store, .trunk]
  | .sideBTransmitStart _ | .trunkStartBit _ _ => [.clock, .trunk]
  | .dropHeaderMalformed _ _ _ | .dropReceiveStall _ | .stampPacketComplete _ _ => [.drops, .reports]
  | .pulseEnd _ | .dropResyncEnd _ | .dropActivity _ _ | .lineArbiterStart _ | .dropTransmitStall _ => [.drops]
  | .dropTransmitComplete _ | .itemStale => [.drops, .store]
  | .intakeTake => [.drops, .intake]
  | .intakeComplete => [.tracker, .drops, .intake, .labels, .store, .reports]
  | .reportEmission => [.trunk, .reports]
  | .holdoffExpiry => [.reports]
  | .trimWriteComplete | .storeTrim => [.trim, .trunk, .mgmt]
  | .loadPart => [.clock, .part, .trunk, .mgmt]
  | .loadProfile | .anchor => [.drops, .trunk, .mgmt]
  | .loadRegion => [.store, .trunk, .mgmt]
  | .loadUserBits => [.labels, .trunk, .mgmt]
  | .reopen => [.reports, .trunk, .mgmt]
  | .trunkReset => [.clock, .house, .tracker, .drops, .intake, .labels, .store, .trunk, .mgmt, .reports]
  | .dropReset => [.tracker, .drops, .intake, .store, .reports, .trunk, .mgmt]
  | .forceJam | .resume => [.tracker, .trunk, .mgmt]
  | .hold => [.clock, .tracker, .reports, .trunk, .mgmt]
  | .wordClockEdge _ _ => [.clock, .drops]
  -- replies that wait, LOAD_ROUTE, the READs and the requests refused
  | _ => [.trunk, .mgmt]

theorem Touches.orSame {c : Prop} [Decidable c] {bs : List Block} {s t : State} (h : Touches bs s t) :
    Touches bs s (if c then t else s) := by
  split
  · exact h
  · exact .refl bs s

/-- One effect after another, of the blocks listed each. -/
theorem Touches.andThen {bs cs ds : List Block} {s t u : State} (h : Touches bs s t) (h' : Touches cs t u)
    (hb : bs.all (fun b => ds.contains b) = true := by rfl) (hc : cs.all (fun b => ds.contains b) = true := by rfl) :
    Touches ds s u :=
  (h.mono hb).trans (h'.mono hc)

theorem State.endPowerOnReset_touches (s : State) (stn : BitVec 6) :
    Touches [.inReset, .clock, .tracker, .trunk] s (s.endPowerOnReset stn) := by
  constructor
  intro b hb
  cases b with
  | inReset | clock | tracker | trunk => cases hb
  | _ => rfl

theorem State.powerOn_touches (s : State) : Touches (blocksOf .powerOn) s s.powerOn := by
  constructor
  intro b hb
  cases b with
  | pending => rfl
  | _ => cases hb

theorem State.endPulse_touches (s : State) (d : DropId) : Touches [.drops] s (s.endPulse d) := by
  unfold State.endPulse
  split
  · exact (s.updDf_touches d _).orSame
  · exact .refl _ s

theorem State.trunkPacketComplete_touches (s : State) (side : Side) (words : List Word) :
    Touches [.clock, .house, .tracker, .drops, .store, .trunk, .mgmt, .reports] s (s.trunkPacketComplete side words) :=
  (s.judgePacket_touches side words).orSame

theorem State.trunkLostSignal_touches (s : State) (side : Side) : Touches [.trunk, .reports] s (s.trunkLostSignal side) :=
  (((s.setReceiver_touches side _).trans (State.updSideCounters_touches _ side _)).andThen
    (State.latch_touches _ _ _)).orSame

theorem State.trunkResynced_touches (s : State) (side : Side) : Touches [.trunk] s (s.trunkResynced side) :=
  (s.setReceiver_touches side _).orSame

theorem State.trunkStartBit_touches (s : State) (side : Side) (k : DividerCount) :
    Touches [.clock, .trunk] s (s.trunkStartBit side k) :=
  (s.atDivider_touches k).andThen (State.updPort_touches _ side _).orSame

theorem State.sideBStart_touches (s : State) (k : DividerCount) : Touches [.clock, .trunk] s (s.sideBStart k) :=
  (s.atDivider_touches k).andThen (State.startOnB_touches _ k).orSame

theorem State.sideBTransmitted_touches (s : State) : Touches [.trunk] s s.sideBTransmitted :=
  ((s.setTrunk_touches _).trans (State.countTransmitted_touches _ .b)).orSame

theorem State.headerMalformed_touches (s : State) (d : DropId) (kind len : Word) :
    Touches [.drops, .reports] s (s.headerMalformed d kind len) :=
  ((s.countMalformed_touches d).andThen (State.updLine_touches _ d _)).orSame

theorem State.dropResynced_touches (s : State) (d : DropId) : Touches [.drops] s (s.dropResynced d) :=
  (s.updLine_touches d _).orSame

theorem State.receiveStalled_touches (s : State) (d : DropId) : Touches [.drops, .reports] s (s.receiveStalled d) :=
  ((s.countMalformed_touches d).andThen (State.updLine_touches _ d _)).orSame

theorem OnlyDropAndLatches.touches {d : DropId} {s t : State} (h : OnlyDropAndLatches d s t) :
    Touches [.drops, .reports] s t := by
  obtain ⟨hframe, -⟩ := h
  rw [hframe]
  constructor
  intro b hb
  cases b with
  | drops | reports => cases hb
  | _ => rfl

theorem State.stampPacketComplete_touches (s : State) (d : DropId) (words : List Word) :
    Touches [.drops, .reports] s (s.stampPacketComplete d words) :=
  (s.onlyDropAndLatches_stampReceived d words).touches.orSame

theorem State.lineActivity_touches (s : State) (d : DropId) (c : LineChange) : Touches [.drops] s (s.lineActivity d c) := by
  unfold State.lineActivity
  refine Touches.orSame ?_
  dsimp only
  split
  · exact (s.updLine_touches d _).trans (State.wake_touches _ d)
  · exact s.updLine_touches d _

theorem State.lineStart_touches (s : State) (d : DropId) : Touches [.drops] s (s.lineStart d) := by
  unfold State.lineStart
  refine Touches.orSame ?_
  split
  · exact s.updLine_touches d _
  · split
    · exact s.updLine_touches d _
    · exact .refl _ s
  · exact .refl _ s

theorem State.dropTransmitted_touches (s : State) (d : DropId) : Touches [.drops, .store] s (s.dropTransmitted d) := by
  unfold State.dropTransmitted
  split
  · exact (s.updLine_touches d _).mono rfl
  · exact s.copySent_touches d _
  · exact .refl _ s

theorem State.transmitStalled_touches (s : State) (d : DropId) : Touches [.drops] s (s.transmitStalled d) :=
  (s.updLine_touches d _).orSame

theorem State.reportEmission_touches (s : State) : Touches [.trunk, .reports] s s.reportEmission := by
  unfold State.reportEmission
  refine Touches.orSame ?_
  split
  · exact (s.setTrunk_touches _).andThen (State.setReports_touches _ _)
  · exact .refl _ s

theorem State.openGate_touches (s : State) : Touches [.reports] s s.openGate := s.setReports_touches _

theorem State.reopenGate_touches (s : State) : Touches [.reports] s s.reopenGate := by
  unfold State.reopenGate
  split
  · exact .refl _ s
  · exact s.openGate_touches

theorem State.trimWritten_touches (s : State) : Touches [.trim, .trunk, .mgmt] s s.trimWritten := by
  unfold State.trimWritten
  dsimp only
  split
  · split
    · exact (s.setTrim_touches _).andThen (State.trimReply_touches _ _)
    · exact (s.setTrim_touches _).mono rfl
  · exact .refl _ s

theorem State.wordEdge_touches (s : State) (d : DropId) (k : DividerCount) : Touches [.clock, .drops] s (s.wordEdge d k) :=
  (s.atDivider_touches k).andThen (State.driveDf_touches _ d k)

/-! ## Requests -/

theorem State.takeRequest_touches {bs : List Block} {k : RequestKind} {carry : Request → State → Carried}
    (hcarry : ∀ (r : Request) (u : State), Touches bs u (carry r u).state) (s : State) {ds : List Block}
    (hb : bs.all (fun b => ds.contains b) = true := by rfl)
    (hd : [Block.trunk, .mgmt].all (fun b => ds.contains b) = true := by rfl) : Touches ds s (s.takeRequest k carry) := by
  rcases s.takeRequest_cases k carry with hnone | ⟨r, rest, htaken⟩
  · rw [hnone]; exact .refl ds s
  · rw [htaken]
    have hqueue : Touches [.trunk, .mgmt] s (s.setMgmt { s.mgmt with queue := rest }) := (s.setMgmt_touches _).mono rfl
    exact ((hqueue.mono hd).trans ((hcarry r _).mono hb)).trans ((Carried.answer_touches _ r).mono hd)

theorem carryLoad_touches {bs : List Block} {owner : Nat → List Word → State → Carried}
    (howner : ∀ i ws (u : State), Touches bs u (owner i ws u).state) (t : Table) (r : Request) (u : State) :
    Touches bs u (carryLoad t owner r u).state := by
  unfold carryLoad
  split
  · exact howner _ _ u
  · exact .refl bs u

theorem carryRead_touches (t : Table) (record : Nat → State → List Word) (r : Request) (u : State) :
    Touches [] u (carryRead t record r u).state := by
  unfold carryRead
  split <;> exact .refl [] u

theorem State.takeRead_touches (s : State) (t : Table) (record : Nat → State → List Word) :
    Touches [.trunk, .mgmt] s (s.takeRequest (.read t) (carryRead t record)) :=
  State.takeRequest_touches (carryRead_touches t record) s

theorem carryDropControl_touches {bs : List Block} {act : DropId → State → State}
    (hact : ∀ d (u : State), Touches bs u (act d u)) (r : Request) (u : State) :
    Touches bs u (carryDropControl act r u).state := by
  unfold carryDropControl
  split
  · exact hact _ u
  · exact .refl bs u

theorem carryControl_touches {bs : List Block} {act : State → State} (hact : ∀ u : State, Touches bs u (act u))
    (r : Request) (u : State) : Touches bs u (carryControl act r u).state :=
  hact u

theorem State.writePart_touches (s : State) (p : PartRecord) : Touches [.clock, .part] s (s.writePart p) := by
  unfold State.writePart
  dsimp only
  split
  · exact (s.setPart_touches p).andThen (State.setCorrection_touches _ _)
  · exact (s.setPart_touches p).mono rfl

theorem State.acceptProfile_touches (s : State) (d : DropId) (p : Profile) : Touches [.drops] s (s.acceptProfile d p) := by
  unfold State.acceptProfile
  split
  · exact s.updCadence_touches d _
  · exact s.loadDisabled_touches d p

theorem ownLoadProfile_touches (i : Nat) (ws : List Word) (u : State) :
    Touches [.drops] u (ownLoadProfile i ws u).state := by
  unfold ownLoadProfile
  split
  · exact .refl _ u
  split
  · exact .refl _ u
  · exact u.acceptProfile_touches _ _

theorem ownLoadRegion_touches (i : Nat) (ws : List Word) (u : State) : Touches [.store] u (ownLoadRegion i ws u).state := by
  unfold ownLoadRegion
  dsimp only
  split
  · exact .refl _ u
  split
  · exact .refl _ u
  split
  · exact .refl _ u
  · exact u.updRegion_touches _ _

theorem ownLoadRoute_touches (i : Nat) (ws : List Word) (u : State) : Touches [.trunk] u (ownLoadRoute i ws u).state := by
  unfold ownLoadRoute
  dsimp only
  split
  · exact .refl _ u
  split
  · exact .refl _ u
  · exact u.setTrunk_touches _

theorem State.requestAnchor_touches (s : State) (d : DropId) : Touches [.drops] s (s.requestAnchor d) :=
  (s.updCadence_touches d _).orSame

theorem State.resumeTracker_touches (s : State) : Touches [.tracker] s s.resumeTracker :=
  (s.setTracker_touches _).orSame

theorem carryStoreTrim_touches (r : Request) (u : State) : Touches [.trim] u (carryStoreTrim r u).state := by
  unfold carryStoreTrim
  split
  · exact .refl _ u
  · exact u.setTrim_touches _

theorem State.resetBlocks_touches (s : State) :
    Touches [.clock, .house, .tracker, .intake, .labels, .store, .trunk, .mgmt, .reports] s s.resetBlocks := by
  constructor
  intro b hb
  cases b with
  | inReset | trim | part | drops | pending => rfl
  | _ => cases hb

theorem State.trunkReset_touches (s : State) :
    Touches [.clock, .house, .tracker, .drops, .intake, .labels, .store, .trunk, .mgmt, .reports] s s.trunkReset := by
  have hdrops : Touches [.tracker, .drops] s s.resetDrops :=
    (s.updAllDrops_touches _).andThen (State.announceGuard_touches _)
  exact (hdrops.andThen (State.resetBlocks_touches _)).trans
    (Touches.foldl (fun t d => (t.applyAtTrunkReset_touches d).mono rfl) allDrops _)

theorem State.trunkResetControl_touches (s : State) :
    Touches [.clock, .house, .tracker, .drops, .intake, .labels, .store, .trunk, .mgmt, .reports] s
      s.trunkResetControl :=
  (s.trunkReset_touches.trans ((State.enterWaitingTrims_touches _ .a).mono rfl)).trans
    ((State.enterWaitingTrims_touches _ .b).mono rfl)

/-! ## Every command -/

theorem effectOf_touches (c : Instr) (s : State) : Touches (blocksOf c) s (effectOf c s) := by
  cases c with
  | powerOn => exact s.powerOn_touches
  | powerOnResetEnd stn => exact (s.endPowerOnReset_touches stn).orSame
  | epoch => exact s.epoch_touches
  | houseBoundaryEvent => exact s.houseBoundary_touches.orSame
  | missingTimeExpiry => exact s.missingTimeExpiry_touches
  | dropBoundaryEvent d => exact (s.boundaryEvent_touches d).orSame
  | pulseEnd d => exact s.endPulse_touches d
  | trunkPacketComplete side words => exact s.trunkPacketComplete_touches side words
  | trunkLostSignal side => exact s.trunkLostSignal_touches side
  | trunkResyncEnd side => exact s.trunkResynced_touches side
  | sideATransmitStart => exact s.startOnA_touches.orSame
  | sideATransmitComplete => exact s.sideATransmitted_touches
  | sideBTransmitStart k => exact s.sideBStart_touches k
  | sideBTransmitComplete => exact s.sideBTransmitted_touches
  | heldReplyEntry => exact s.heldReplyEntry_touches
  | trimReplyEntry side => exact s.trimReplyEntry_touches side
  | dropHeaderMalformed d kind len => exact s.headerMalformed_touches d kind len
  | dropResyncEnd d => exact s.dropResynced_touches d
  | dropReceiveStall d => exact s.receiveStalled_touches d
  | stampPacketComplete d words => exact s.stampPacketComplete_touches d words
  | dropActivity d change => exact s.lineActivity_touches d change
  | lineArbiterStart d => exact s.lineStart_touches d
  | dropTransmitComplete d => exact s.dropTransmitted_touches d
  | dropTransmitStall d => exact s.transmitStalled_touches d
  | intakeTake => exact s.intakeTake_touches
  | intakeComplete => exact s.intakeComplete_touches
  | itemStale => exact s.discardStale_touches
  | reportEmission => exact s.reportEmission_touches
  | holdoffExpiry => exact s.openGate_touches.orSame
  | trimWriteComplete => exact s.trimWritten_touches
  | loadPart => exact State.takeRequest_touches (carryLoad_touches (fun _ _ u => u.writePart_touches _) .part) s
  | loadProfile => exact State.takeRequest_touches (carryLoad_touches ownLoadProfile_touches .profile) s
  | loadRegion => exact State.takeRequest_touches (carryLoad_touches ownLoadRegion_touches .region) s
  | loadRoute => exact State.takeRequest_touches (carryLoad_touches ownLoadRoute_touches .route) s
  | loadUserBits => exact State.takeRequest_touches (carryLoad_touches (fun _ _ u => u.setLabels_touches _) .userBits) s
  | unknownRequest =>
    exact State.takeRequest_touches (k := .unknown) (carry := fun _ u => refuseWith u .unknown)
      (fun _ u => Touches.refl [] u) s
  | reopen => exact State.takeRequest_touches (carryControl_touches State.reopenGate_touches) s
  | trunkReset => exact State.takeRequest_touches (carryControl_touches State.trunkResetControl_touches) s
  | dropReset => exact State.takeRequest_touches (carryDropControl_touches (fun d u => u.dropReset_touches d)) s
  | anchor => exact State.takeRequest_touches (carryDropControl_touches (fun d u => u.requestAnchor_touches d)) s
  | forceJam => exact State.takeRequest_touches (carryControl_touches (fun u => u.setTracker_touches _)) s
  | hold => exact State.takeRequest_touches (carryControl_touches State.holdTracker_touches) s
  | resume => exact State.takeRequest_touches (carryControl_touches State.resumeTracker_touches) s
  | storeTrim => exact State.takeRequest_touches carryStoreTrim_touches s
  | trunkStartBit side k => exact s.trunkStartBit_touches side k
  | wordClockEdge d k => exact s.wordEdge_touches d k
  | _ => exact s.takeRead_touches _ _

end Sys2Proof.Machine
end

section
/-! SUPPORT. What the store reaches of a drop: its copy queue, which it fills and empties, and the counter of unassigned
discards. Said once for each operation of the store, it leaves the rest of the drop (take, profile, cadence unit, DF line,
registers) as it was in everything that makes, admits, discards or retires items. -/

namespace Sys2Proof.Machine

/- One proof after another: a thread for each would take more memory than a check has. -/
set_option Elab.async false

/-! ## One drop updated -/

theorem State.onlyDrop_updLine (s : State) (d : DropId) (f : Line → Line) : OnlyDrop d s (s.updLine d f) :=
  s.onlyDrop_updDrop d _

theorem State.onlyDrop_updCounters (s : State) (d : DropId) (f : DropCounters → DropCounters) :
    OnlyDrop d s (s.updCounters d f) :=
  s.onlyDrop_updLine d _

theorem State.drop_updCounters_self (s : State) (d : DropId) (f : DropCounters → DropCounters) :
    (s.updCounters d f).drop d =
      { s.drop d with line := { (s.drop d).line with counters := f (s.drop d).line.counters } } :=
  s.drop_updLine_self d _

/-! ## Drops whose copies alone change -/

/-- Of a drop, only the copy queue and the counters have changed; the queue keeps to its four places, and is not begun where
the drop is not given copies (R92, R130, R134). -/
structure Drop.CopiesChange (x y : Drop) : Prop where
  same : y = { x with line := { x.line with copyQueue := y.line.copyQueue, counters := y.line.counters } }
  places : x.line.copyQueue.length ≤ 4 → y.line.copyQueue.length ≤ 4
  begun : y.line.copyQueue ≠ [] → x.line.copyQueue ≠ [] ∨ x.GivenCopies

namespace Drop.CopiesChange

theorem refl (x : Drop) : x.CopiesChange x := ⟨rfl, id, .inl⟩

theorem profile {x y : Drop} (h : x.CopiesChange y) : y.profile = x.profile := by rw [h.same]
theorem cadence {x y : Drop} (h : x.CopiesChange y) : y.cadence = x.cadence := by rw [h.same]
theorem df {x y : Drop} (h : x.CopiesChange y) : y.df = x.df := by rw [h.same]
theorem take {x y : Drop} (h : x.CopiesChange y) : y.take = x.take := by rw [h.same]
theorem state {x y : Drop} (h : x.CopiesChange y) : y.line.state = x.line.state := by rw [h.same]
theorem shift {x y : Drop} (h : x.CopiesChange y) : y.line.shift = x.line.shift := by rw [h.same]
theorem holding {x y : Drop} (h : x.CopiesChange y) : y.line.holding = x.line.holding := by rw [h.same]
theorem slot {x y : Drop} (h : x.CopiesChange y) : y.line.slot = x.line.slot := by rw [h.same]
theorem transmission {x y : Drop} (h : x.CopiesChange y) : y.line.transmission = x.line.transmission := by rw [h.same]

theorem givenCopies_iff {x y : Drop} (h : x.CopiesChange y) : y.GivenCopies ↔ x.GivenCopies := by
  rw [h.same]
  rfl

theorem trans {x y z : Drop} (h : x.CopiesChange y) (h' : y.CopiesChange z) : x.CopiesChange z where
  same := by
    have hz := h'.same
    rw [h.same] at hz
    exact hz
  places := h'.places ∘ h.places
  begun hz := (h'.begun hz).elim h.begun (fun hgiven => .inr (h.givenCopies_iff.mp hgiven))

end Drop.CopiesChange

/-- Of every drop, only the copies change. -/
def State.CopiesChange (s t : State) : Prop := ∀ d, (s.drop d).CopiesChange (t.drop d)

theorem State.CopiesChange.of_drops {s t : State} (h : t.drops = s.drops) : s.CopiesChange t :=
  fun d => State.drop_eq_of_drops h d ▸ .refl _

theorem State.CopiesChange.refl (s : State) : s.CopiesChange s := .of_drops rfl

theorem State.CopiesChange.trans {s t u : State} (h : s.CopiesChange t) (h' : t.CopiesChange u) : s.CopiesChange u :=
  fun d => (h d).trans (h' d)

theorem State.CopiesChange.foldl {α : Type} {f : State → α → State} (h : ∀ (s : State) x, s.CopiesChange (f s x))
    (l : List α) (s : State) : s.CopiesChange (l.foldl f s) := by
  induction l generalizing s with
  | nil => exact .refl s
  | cons x l ih => exact (h s x).trans (ih (f s x))

theorem Touches.copiesChange {bs : List Block} {s t : State} (h : Touches bs s t)
    (hb : bs.contains .drops = false := by rfl) : s.CopiesChange t := .of_drops (h.drops hb)

theorem State.updDrop_copiesChange {s : State} {d : DropId} {f : Drop → Drop} (h : (s.drop d).CopiesChange (f (s.drop d))) :
    s.CopiesChange (s.updDrop d f) := by
  intro e
  rw [State.drop_updDrop]
  split
  next he => subst he; exact h
  next => exact .refl _

theorem State.updCounters_copiesChange (s : State) (d : DropId) (f : DropCounters → DropCounters) :
    s.CopiesChange (s.updCounters d f) :=
  State.updDrop_copiesChange ⟨rfl, id, .inl⟩

/-! ## The operations of the store -/

theorem State.fill_copiesChange (s : State) (d : DropId) : s.CopiesChange (s.fill d) := by
  obtain ⟨q, hfill, more, rfl, hmore, -⟩ := s.fill_spec d
  rw [hfill]
  by_cases hnone : more = []
  · rw [hnone, List.append_nil, State.withQueue_self]
    exact .refl s
  · obtain ⟨hgiven, hplaces⟩ := hmore hnone
    exact State.updDrop_copiesChange ⟨rfl, fun _ => hplaces, fun _ => .inr hgiven⟩

theorem State.fillNamed_copiesChange (s : State) (m : DropMask) : s.CopiesChange (s.fillNamed m) := by
  rw [State.fillNamed_eq]
  refine .foldl (fun t d => ?_) allDrops s
  unfold State.fillIfNamed
  split
  · exact t.fill_copiesChange d
  · exact .refl t

theorem State.unqueue_copiesChange (s : State) (serial : Nat) (d : DropId) : s.CopiesChange (s.unqueue serial d) := by
  unfold State.unqueue
  split
  next hqueued =>
    have hsome : (s.drop d).line.copyQueue ≠ [] := List.ne_nil_of_mem (List.contains_iff_mem.mp hqueued)
    exact (State.updDrop_copiesChange
      ⟨rfl, (List.length_filter_le _ _).trans, fun _ => .inl hsome⟩).trans (State.fill_copiesChange _ d)
  next => exact .refl s

theorem State.discardItem_copiesChange (s : State) (serial : Nat) : s.CopiesChange (s.discardItem serial) :=
  (s.updAllRegions_touches _).copiesChange.trans (.foldl (fun t d => t.unqueue_copiesChange serial d) allDrops _)

theorem State.discardItems_copiesChange (s : State) (items : List Held) : s.CopiesChange (s.discardItems items) := by
  unfold State.discardItems
  exact .foldl (fun t (h : Held) => t.discardItem_copiesChange h.serial) items s

theorem State.drawSerial_copiesChange (s : State) : s.CopiesChange s.drawSerial :=
  State.discardItems_copiesChange (s.setStore { s.store with serial := wrapAdd32 s.store.serial 1 }) _

theorem State.meetFull_copiesChange (s : State) (i : RegionId) (source : Option DropId) (h : Held) :
    s.CopiesChange (s.meetFull i source h) := by
  refine State.CopiesChange.trans ?_ (State.latch_touches _ _ _).copiesChange
  split
  · exact (s.updRegion_touches i _).copiesChange.trans (State.fillNamed_copiesChange _ _)
  · exact (s.updRegion_touches i _).copiesChange

theorem State.countUnassigned_copiesChange (s : State) (source : Option DropId) :
    s.CopiesChange (s.countUnassigned source) := by
  cases source with
  | some d => exact s.updCounters_copiesChange d _
  | none => exact .refl s

theorem State.admitItem_copiesChange (s : State) (i : RegionId) (source : Option DropId) (h : Held) :
    s.CopiesChange (s.admitItem i source h) := by
  unfold State.admitItem
  split
  · exact s.countUnassigned_copiesChange source
  split
  · exact (s.updRegion_touches i _).copiesChange
  split
  · exact (s.updRegion_touches i _).copiesChange.trans (State.fillNamed_copiesChange _ _)
  · exact s.meetFull_copiesChange i source h

theorem State.createItem_copiesChange (s : State) (d : DropId) (item : ItemBody) : s.CopiesChange (s.createItem d item) :=
  s.drawSerial_copiesChange.trans (State.admitItem_copiesChange _ _ _ _)

theorem State.createPassCopy_copiesChange (s : State) (item : ItemBody) (drops : DropMask) :
    s.CopiesChange (s.createPassCopy item drops) :=
  s.drawSerial_copiesChange.trans (State.admitItem_copiesChange _ _ _ _)

theorem State.foreignArrival_copiesChange (s : State) (words : List Word) (k : RouteKind) (item : Option ItemBody) :
    s.CopiesChange (s.foreignArrival words k item) := by
  have hup : s.CopiesChange (if (s.lookup k (trunkSource words)).1 then s.enterUp words else s) := by
    split
    · exact (s.enterUp_touches words).copiesChange
    · exact .refl s
  unfold State.foreignArrival
  dsimp only
  split
  · exact (s.updSideCounters_touches _ _).copiesChange
  split
  · split
    · exact hup.trans (State.createPassCopy_copiesChange _ _ _)
    · exact hup
  · exact hup

end Sys2Proof.Machine
end

section
/-! SUPPORT. R129, R134, R139: what discarding held items does. One discard is said once, for the regions and for the copy
queues; discarding several is an induction over their serials, in which a queue that is filled again and again is a queue
filled once from what is left. -/

namespace Sys2Proof.Machine

/- One proof after another: a thread for each would take more memory than a check has. -/
set_option Elab.async false

/-! ## Held items, region by region -/

theorem State.mem_heldItems_iff (s : State) (h : Held) : h ∈ s.heldItems ↔ ∃ i, h ∈ (s.region i).items := by
  simp only [State.heldItems, List.mem_flatMap, State.region]
  constructor
  · rintro ⟨r, hr, hh⟩
    obtain ⟨n, hn, rfl⟩ := Vector.mem_iff_getElem.mp (Vector.mem_toList_iff.mp hr)
    exact ⟨⟨n, hn⟩, hh⟩
  · rintro ⟨i, hh⟩
    exact ⟨_, Vector.mem_toList_iff.mpr (Vector.getElem_mem i.isLt), hh⟩

/-- The serials that a region holds. -/
def Region.serials (r : Region) : List Nat := r.items.map Held.serial

/-- Held serials are distinct exactly where each region's are and no two regions share one. -/
theorem State.heldSerials_nodup_iff (s : State) :
    (s.heldItems.map Held.serial).Nodup ↔
      (∀ i, (s.region i).serials.Nodup) ∧ ∀ i j, i < j → (s.region i).serials.Disjoint (s.region j).serials := by
  have hmap : s.heldItems.map Held.serial = s.store.regions.toList.flatMap Region.serials := by
    simp only [State.heldItems, List.map_flatMap]
    rfl
  rw [hmap, List.nodup_flatMap, List.pairwise_iff_getElem]
  refine and_congr ⟨fun h i => h _ (Vector.mem_toList_iff.mpr (Vector.getElem_mem i.isLt)), fun h r hr => ?_⟩
    ⟨fun h i j hij => ?_, fun h i j hi hj hij => ?_⟩
  · obtain ⟨n, hn, rfl⟩ := Vector.mem_iff_getElem.mp (Vector.mem_toList_iff.mp hr)
    exact h ⟨n, hn⟩
  · have := h i.val j.val (by simp) (by simp) hij
    simpa [Function.onFun, State.region] using this
  · rw [Vector.length_toList] at hi hj
    have := h ⟨i, hi⟩ ⟨j, hj⟩ hij
    simpa [Function.onFun, State.region] using this

/-! ## One discard: the regions -/

/-- Where a region's serials are distinct, a discard takes out the item with the serial, if it is there. -/
theorem Region.discard_eq {r : Region} (hnodup : r.serials.Nodup) (n : Nat) :
    r.discard n = { r with
      items := r.items.filter (fun h => h.serial != n),
      discarded := if n ∈ r.items.map Held.serial then wrapAdd32 r.discarded 1 else r.discarded } := by
  have hany : r.items.any (fun h => h.serial == n) = true ↔ n ∈ r.items.map Held.serial := by simp
  have hothers (l : List Held) (hl : n ∉ l.map Held.serial) : l.filter (fun h => h.serial != n) = l :=
    List.filter_eq_self.mpr fun h hh => bne_iff_ne.mpr fun heq => hl (heq ▸ List.mem_map_of_mem hh)
  have herase (l : List Held) (hl : (l.map Held.serial).Nodup) :
      l.eraseP (fun h => h.serial == n) = l.filter (fun h => h.serial != n) := by
    induction l with
    | nil => rfl
    | cons h l ih =>
      obtain ⟨hnew, hl⟩ := List.nodup_cons.mp hl
      by_cases hn : h.serial = n
      · subst hn
        simp [hothers l hnew]
      · simp [hn, ih hl]
  unfold Region.discard
  by_cases hmem : n ∈ r.items.map Held.serial
  · rw [if_pos (hany.mpr hmem), if_pos hmem, herase _ hnodup]
  · rw [if_neg (hany.not.mpr hmem), if_neg hmem, hothers _ hmem]

/-! ## One discard: the copy queues -/

theorem State.drop_unqueue_ne (s : State) (n : Nat) {d e : DropId} (h : e ≠ d) : (s.unqueue n d).drop e = s.drop e := by
  unfold State.unqueue
  split
  · rw [State.drop_fill_ne _ h]
    exact s.drop_updDrop_ne _ h
  · rfl

theorem notContains_singleton (n : Nat) : (fun m => !([n] : List Nat).contains m) = (fun m => m != n) := by
  funext m
  simp only [List.contains_cons, List.contains_nil, Bool.or_false]
  rfl

/-- Drop `x` with the entries of the serials out of its copy queue. -/
def Drop.without (ns : List Nat) (x : Drop) : Drop :=
  { x with line := { x.line with copyQueue := x.line.copyQueue.filter (fun n => !ns.contains n) } }

/-- What has become of a drop once the serials have gone: filled where an entry of it went. -/
def State.UnqueuedAt (ns : List Nat) (d : DropId) (x : Drop) (t : State) : Prop :=
  if ∃ n ∈ ns, n ∈ x.line.copyQueue then t.FilledFrom d (x.without ns) else t.drop d = x

theorem State.UnqueuedAt.congr {ns : List Nat} {d : DropId} {x : Drop} {s t : State} (h : s.UnqueuedAt ns d x)
    (hstore : t.store = s.store) (hdrop : t.drop d = s.drop d) : t.UnqueuedAt ns d x := by
  unfold State.UnqueuedAt at h ⊢
  split at h
  next hsome => rw [if_pos hsome]; exact State.FilledFrom.congr h hstore hdrop
  next hsome => rw [if_neg hsome]; exact hdrop.trans h

theorem State.unqueue_unqueuedAt (s : State) (n : Nat) (d : DropId) : (s.unqueue n d).UnqueuedAt [n] d (s.drop d) := by
  unfold State.UnqueuedAt State.unqueue
  by_cases hn : n ∈ (s.drop d).line.copyQueue
  · rw [if_pos ⟨n, List.mem_singleton_self n, hn⟩, if_pos (List.contains_iff_mem.mpr hn)]
    have hfilled := State.fill_filledFrom
      (s.updLine d (fun l => { l with copyQueue := l.copyQueue.filter (fun m => m != n) })) d
    rw [State.drop_updLine_self] at hfilled
    unfold Drop.without
    rw [notContains_singleton]
    exact hfilled
  · rw [if_neg (by simpa using hn), if_neg (by simpa using hn)]

theorem State.foldl_unqueue_touches (n : Nat) (l : List DropId) (s : State) :
    Touches [.drops] s (l.foldl (fun s d => s.unqueue n d) s) :=
  Touches.foldl (fun t d => t.unqueue_touches n d) l s

theorem State.drop_foldl_unqueue (n : Nat) {e : DropId} {l : List DropId} (hl : e ∉ l) (s : State) :
    (l.foldl (fun s d => s.unqueue n d) s).drop e = s.drop e := by
  induction l generalizing s with
  | nil => rfl
  | cons d l ih =>
    obtain ⟨hed, hel⟩ := not_or.mp (List.mem_cons.not.mp hl)
    exact (ih hel _).trans (s.drop_unqueue_ne n hed)

/-- Each drop's queue loses the entry once: the drops before it and after it leave it alone. -/
theorem State.foldl_unqueue_unqueuedAt (n : Nat) {e : DropId} {l : List DropId} (hnodup : l.Nodup) (he : e ∈ l)
    (s : State) : (l.foldl (fun s d => s.unqueue n d) s).UnqueuedAt [n] e (s.drop e) := by
  induction l generalizing s with
  | nil => cases he
  | cons d l ih =>
    obtain ⟨hd, hl⟩ := List.nodup_cons.mp hnodup
    rcases List.mem_cons.mp he with rfl | hel
    · exact (s.unqueue_unqueuedAt n e).congr ((State.foldl_unqueue_touches n l _).store rfl)
        (State.drop_foldl_unqueue n hd _)
    · have hne : e ≠ d := fun heq => hd (heq ▸ hel)
      rw [← s.drop_unqueue_ne n hne]
      exact ih hl hel _

theorem State.region_discardItem (s : State) (n : Nat) (i : RegionId) :
    (s.discardItem n).region i = (s.region i).discard n :=
  ((State.foldl_unqueue_touches n allDrops _).region rfl i).trans (s.region_updAllRegions _ i)

theorem State.discardItem_unqueuedAt (s : State) (n : Nat) (e : DropId) :
    (s.discardItem n).UnqueuedAt [n] e (s.drop e) :=
  State.foldl_unqueue_unqueuedAt n (by decide) (mem_allDrops e) (s.updAllRegions (Region.discard n))

theorem State.discardItem_serial (s : State) (n : Nat) : (s.discardItem n).store.serial = s.store.serial := by
  have h := (State.foldl_unqueue_touches n allDrops (s.updAllRegions (Region.discard n))).store rfl
  unfold State.discardItem
  rw [h]
  rfl

/-! ## Queues filled again -/

/-- From `t` to `u` the items of serial `n` have gone, and nothing else that a copy queue depends on has changed. -/
structure State.LosesItem (n : Nat) (d : DropId) (t u : State) : Prop where
  owes : ∀ m, u.Owes d m ↔ t.Owes d m ∧ m ≠ n
  age : ∀ m, u.ageOf m = t.ageOf m
  given : (u.drop d).GivenCopies ↔ (t.drop d).GivenCopies

/-- A filled queue that does not hold what goes is still filled. -/
theorem State.Filled.loses {t u : State} {d : DropId} {n : Nat} {q q' : List Nat} (h : t.Filled d q q')
    (hloses : t.LosesItem n d u) (hn : n ∉ q') : u.Filled d q q' := by
  obtain ⟨more, rfl, hroom, howed, hsorted, hrest⟩ := h
  refine ⟨more, rfl, fun hsome => ?_, fun m hm => ⟨(howed m hm).1, ?_⟩, ?_, fun m hm hnew => ?_⟩
  · exact ⟨hloses.given.mpr (hroom hsome).1, (hroom hsome).2⟩
  · exact (hloses.owes m).mpr ⟨(howed m hm).2, fun heq => hn (heq ▸ List.mem_append_right q hm)⟩
  · simpa only [hloses.age] using hsorted
  · simp only [hloses.age, hloses.given]
    exact hrest m ((hloses.owes m).mp hm).1 hnew

/-- A filled queue that loses an entry and is filled again is a queue filled from what is left. -/
theorem State.Filled.refilled {t u : State} {d : DropId} {n : Nat} {q q' q'' : List Nat} (h : t.Filled d q q')
    (hloses : t.LosesItem n d u) (hagain : u.Filled d (q'.filter (fun m => m != n)) q'') :
    u.Filled d (q.filter (fun m => m != n)) q'' := by
  obtain ⟨more, rfl, hroom, howed, hsorted, hrest⟩ := h
  obtain ⟨more', rfl, hroom', howed', hsorted', hrest'⟩ := hagain
  have hnew (m : Nat) (hm : u.Owes d m) (hq : m ∉ (q ++ more).filter (fun m => m != n)) : m ∉ q ++ more := by
    obtain ⟨-, hne⟩ := (hloses.owes m).mp hm
    exact fun hmem => hq (List.mem_filter.mpr ⟨hmem, bne_iff_ne.mpr hne⟩)
  have hyounger (m : Nat) (hm : u.Owes d m) (hq : m ∉ (q ++ more).filter (fun m => m != n)) :
      ∀ a ∈ more.filter (fun m => m != n), u.ageOf m ≤ u.ageOf a := by
    intro a ha
    rw [hloses.age, hloses.age]
    exact (hrest m ((hloses.owes m).mp hm).1 (hnew m hm hq)).1 a (List.mem_of_mem_filter ha)
  refine ⟨more.filter (fun m => m != n) ++ more', by simp, fun hsome => ?room, fun m hm => ?owed, ?sorted,
    fun m hm hnot => ?rest⟩
  case room =>
    by_cases hmore' : more' = []
    · subst hmore'
      have hmore : more ≠ [] := fun hnone => hsome (by simp [hnone])
      refine ⟨hloses.given.mpr (hroom hmore).1, ?_⟩
      rw [List.append_nil]
      exact (List.length_filter_le _ _).trans (hroom hmore).2
    · exact hroom' hmore'
  case owed =>
    rcases List.mem_append.mp hm with hm | hm
    · obtain ⟨hmem, hne⟩ := List.mem_filter.mp hm
      exact ⟨fun hq => (howed m hmem).1 (List.mem_of_mem_filter hq),
        (hloses.owes m).mpr ⟨(howed m hmem).2, bne_iff_ne.mp hne⟩⟩
    · refine ⟨fun hq => (howed' m hm).1 ?_, (howed' m hm).2⟩
      rw [List.filter_append]
      exact List.mem_append_left _ hq
  case sorted =>
    refine List.pairwise_append.mpr ⟨?_, hsorted', fun a ha b hb => ⟨?_, ?_⟩⟩
    · have hkept := hsorted.filter (fun m => m != n)
      simpa only [hloses.age] using hkept
    · rintro rfl
      exact (howed' a hb).1 (by rw [List.filter_append]; exact List.mem_append_right _ ha)
    · exact hyounger b (howed' b hb).2 (howed' b hb).1 a ha
  case rest =>
    have hnot' : m ∉ (q ++ more).filter (fun m => m != n) := fun hmem => hnot (List.mem_append_left _ hmem)
    obtain ⟨hages, hcount⟩ := hrest' m hm hnot
    refine ⟨fun a ha => ?_, hcount⟩
    rcases List.mem_append.mp ha with ha | ha
    · exact hyounger m hm hnot' a ha
    · exact hages a ha

/-- A discard takes the items of its serial out of what is owed. -/
theorem State.losesItem_discardItem {t : State} (hnodup : ∀ i, (t.region i).serials.Nodup) (n : Nat) (d : DropId) :
    t.LosesItem n d (t.discardItem n) where
  owes m := by
    simp only [State.Owes, State.mem_heldItems_iff, State.region_discardItem, Region.discard_eq (hnodup _)]
    constructor
    · rintro ⟨h, ⟨i, hi⟩, rfl, hnames⟩
      obtain ⟨hmem, hne⟩ := List.mem_filter.mp hi
      exact ⟨⟨h, ⟨i, hmem⟩, rfl, hnames⟩, bne_iff_ne.mp hne⟩
    · rintro ⟨⟨h, ⟨i, hi⟩, rfl, hnames⟩, hne⟩
      exact ⟨h, ⟨i, List.mem_filter.mpr ⟨hi, bne_iff_ne.mpr hne⟩⟩, rfl, hnames⟩
  age m := by simp only [State.ageOf, State.discardItem_serial]
  given := (t.discardItem_copiesChange n d).givenCopies_iff

theorem Drop.without_line (ns : List Nat) (x : Drop) :
    (x.without ns).line.copyQueue = x.line.copyQueue.filter (fun n => !ns.contains n) := rfl

theorem filter_notContains_concat (q ns : List Nat) (n : Nat) :
    q.filter (fun m => !(ns ++ [n]).contains m) = (q.filter (fun m => !ns.contains m)).filter (fun m => m != n) := by
  rw [List.filter_filter]
  congr 1
  funext m
  by_cases hm : m ∈ ns <;> by_cases hn : m = n <;> simp [hm, hn]

theorem Drop.without_concat (ns : List Nat) (n : Nat) (x : Drop) : x.without (ns ++ [n]) = (x.without ns).without [n] := by
  unfold Drop.without
  simp only [filter_notContains_concat, notContains_singleton]

/-- One more discard after several. -/
theorem State.UnqueuedAt.concat {t : State} {d : DropId} {x : Drop} {ns : List Nat} (n : Nat)
    (hnodup : ∀ i, (t.region i).serials.Nodup) (h : t.UnqueuedAt ns d x) :
    (t.discardItem n).UnqueuedAt (ns ++ [n]) d x := by
  have hloses := State.losesItem_discardItem hnodup n d
  have hstep := t.discardItem_unqueuedAt n d
  unfold State.UnqueuedAt at h
  split at h
  next hsome =>
    -- the queue has been filled: it is filled again, or what goes is not in it
    obtain ⟨q, hq, hfilled⟩ := h
    have hsome' : ∃ m ∈ ns ++ [n], m ∈ x.line.copyQueue :=
      hsome.imp fun m hm => ⟨List.mem_append_left _ hm.1, hm.2⟩
    unfold State.UnqueuedAt
    rw [if_pos hsome', Drop.without_concat]
    unfold State.UnqueuedAt at hstep
    rw [hq] at hstep
    split at hstep
    next hn =>
      obtain ⟨q', hq', hfilled'⟩ := hstep
      refine ⟨q', hq', ?_⟩
      rw [Drop.without_line, notContains_singleton] at hfilled' ⊢
      exact hfilled.refilled hloses hfilled'
    next hn =>
      have hn' : n ∉ q := by simpa using hn
      refine ⟨q, hstep, ?_⟩
      obtain ⟨more, hmore, -⟩ := id hfilled
      have hgone : n ∉ (x.without ns).line.copyQueue := fun hmem => hn' (hmore ▸ List.mem_append_left _ hmem)
      have hsame : (x.without ns).line.copyQueue.filter (fun m => m != n) = (x.without ns).line.copyQueue :=
        List.filter_eq_self.mpr fun m hm => bne_iff_ne.mpr fun heq => hgone (heq ▸ hm)
      rw [Drop.without_line [n], notContains_singleton, hsame]
      exact hfilled.loses hloses hn'
  next hnone =>
    rw [h] at hstep
    have hwithout : x.without (ns ++ [n]) = x.without [n] := by
      have hfilter : x.line.copyQueue.filter (fun m => !ns.contains m) = x.line.copyQueue :=
        List.filter_eq_self.mpr fun m hm => by simpa using fun hmem => hnone ⟨m, hmem, hm⟩
      rw [Drop.without_concat]
      unfold Drop.without
      rw [hfilter]
    unfold State.UnqueuedAt at hstep ⊢
    have hiff : (∃ m ∈ ns ++ [n], m ∈ x.line.copyQueue) ↔ ∃ m ∈ [n], m ∈ x.line.copyQueue := by
      constructor
      · rintro ⟨m, hm, hmq⟩
        rcases List.mem_append.mp hm with hm | hm
        · exact absurd ⟨m, hm, hmq⟩ hnone
        · exact ⟨m, hm, hmq⟩
      · exact fun ⟨m, hm, hmq⟩ => ⟨m, List.mem_append_right _ hm, hmq⟩
    simp only [hiff, hwithout]
    exact hstep

/-! ## Several discards -/

/-- A region after the items of the serials have gone, counted as discarded. -/
def Region.LosesSerials (ns : List Nat) (r r' : Region) : Prop :=
  ∃ n, n = (r.items.filter (fun h => ns.contains h.serial)).length
    ∧ r' = { r with
        items := r.items.filter (fun h => !ns.contains h.serial),
        discarded := if n = 0 then r.discarded else (r.discarded + n) % 4294967296 }

theorem Region.losesSerials_nil (r : Region) : r.LosesSerials [] r := ⟨0, by simp, by simp⟩

theorem Region.LosesSerials.serials_nodup {ns : List Nat} {r r' : Region} (h : r.LosesSerials ns r')
    (hnodup : r.serials.Nodup) : r'.serials.Nodup := by
  obtain ⟨-, -, rfl⟩ := h
  exact (List.filter_sublist.map Held.serial).nodup hnodup

theorem length_filter_serial_ne {l : List Held} (hnodup : (l.map Held.serial).Nodup) (n : Nat) :
    (l.filter (fun h => h.serial != n)).length + (if n ∈ l.map Held.serial then 1 else 0) = l.length := by
  induction l with
  | nil => rfl
  | cons h l ih =>
    obtain ⟨hnew, hl⟩ := List.nodup_cons.mp hnodup
    have ih := ih hl
    by_cases hn : h.serial = n
    · subst hn
      rw [if_neg hnew] at ih
      simpa using ih
    · simp only [List.filter_cons, bne_iff_ne.mpr hn, if_true, List.length_cons, List.map_cons, List.mem_cons,
        Ne.symm hn, false_or]
      omega

theorem Region.LosesSerials.concat {ns : List Nat} {r r' : Region} (n : Nat) (h : r.LosesSerials ns r')
    (hnodup : r.serials.Nodup) : r.LosesSerials (ns ++ [n]) (r'.discard n) := by
  have hnodup' := h.serials_nodup hnodup
  obtain ⟨k, hk, rfl⟩ := h
  have hkept : r.items.filter (fun h => !(ns ++ [n]).contains h.serial)
      = (r.items.filter (fun h => !ns.contains h.serial)).filter (fun h => h.serial != n) := by
    rw [List.filter_filter]
    congr 1
    funext h
    by_cases hm : h.serial ∈ ns <;> by_cases hn : h.serial = n <;> simp [hm, hn]
  have hcount := length_filter_serial_ne (l := r.items.filter (fun h => !ns.contains h.serial)) hnodup' n
  have htotal := List.length_eq_length_filter_add (l := r.items) (fun h => ns.contains h.serial)
  have htotal' := List.length_eq_length_filter_add (l := r.items) (fun h => (ns ++ [n]).contains h.serial)
  refine ⟨_, rfl, ?_⟩
  rw [Region.discard_eq hnodup', hkept]
  rw [hkept] at htotal'
  generalize (r.items.filter (fun h => (ns ++ [n]).contains h.serial)).length = k' at htotal' ⊢
  simp only [Region.mk.injEq, true_and, wrapAdd32, Config.serialEnd]
  by_cases hmem : n ∈ (r.items.filter (fun h => !ns.contains h.serial)).map Held.serial
  · rw [if_pos hmem] at hcount
    have hk' : k' = k + 1 := by omega
    subst hk'
    rw [if_pos hmem, if_neg (Nat.succ_ne_zero k)]
    split <;> omega
  · rw [if_neg hmem] at hcount
    have hk' : k' = k := by omega
    rw [if_neg hmem, hk']

theorem Touches.eq_of_drops_store {s t : State} (h : Touches [.drops, .store] s t) :
    t = { s with drops := t.drops, store := t.store } := by
  cases s
  cases t
  simp only [State.mk.injEq, true_and]
  exact ⟨h.inReset rfl, h.clock rfl, h.house rfl, h.trim rfl, h.tracker rfl, h.part rfl, h.intake rfl, h.labels rfl,
    h.trunk rfl, h.mgmt rfl, h.reports rfl, h.pending rfl⟩

theorem State.discardItem_store (s : State) (n : Nat) :
    (s.discardItem n).store = { s.store with regions := (s.discardItem n).store.regions } := by
  have h := (State.foldl_unqueue_touches n allDrops (s.updAllRegions (Region.discard n))).store rfl
  unfold State.discardItem
  rw [h]
  rfl

theorem discards_nil (s : State) : Discards [] s s := by
  refine ⟨rfl, fun i => Region.losesSerials_nil _, fun e => ?_⟩
  simp

theorem Discards.serials_nodup {ns : List Nat} {s t : State} (h : Discards ns s t)
    (hnodup : ∀ i, (s.region i).serials.Nodup) (i : RegionId) : (t.region i).serials.Nodup := by
  obtain ⟨-, hregions, -⟩ := h
  exact Region.LosesSerials.serials_nodup (hregions i) (hnodup i)

theorem Discards.concat {ns : List Nat} {s t : State} (h : Discards ns s t) (hnodup : ∀ i, (s.region i).serials.Nodup)
    (n : Nat) : Discards (ns ++ [n]) s (t.discardItem n) := by
  have hnodup' := h.serials_nodup hnodup
  obtain ⟨hframe, hregions, hdrops⟩ := h
  refine ⟨?frame, fun i => ?region, fun e => ?drop⟩
  case frame =>
    have htouches := (t.discardItem_touches n).eq_of_drops_store
    rw [t.discardItem_store n] at htouches
    generalize t.discardItem n = u at htouches ⊢
    rw [hframe] at htouches
    exact htouches
  case region =>
    rw [State.region_discardItem]
    exact Region.LosesSerials.concat n (hregions i) (hnodup i)
  case drop => exact State.UnqueuedAt.concat n hnodup' (hdrops e)

theorem State.discardItems_nil (s : State) : s.discardItems [] = s := rfl

theorem State.discardItems_concat (s : State) (items : List Held) (h : Held) :
    s.discardItems (items ++ [h]) = (s.discardItems items).discardItem h.serial := by
  unfold State.discardItems
  rw [List.foldl_append, List.foldl_cons, List.foldl_nil]

/-- Held items of distinct serials are discarded one after another (R139). -/
theorem State.discardItems_discards {s : State} (hnodup : ∀ i, (s.region i).serials.Nodup) (items : List Held) :
    Discards (items.map Held.serial) s (s.discardItems items) := by
  induction items using List.reverseRecOn with
  | nil => rw [List.map_nil, State.discardItems_nil]; exact discards_nil s
  | append_singleton items h ih =>
    rw [State.discardItems_concat, List.map_append, List.map_singleton]
    exact ih.concat hnodup h.serial

/-- The counter has just been increased (R129). -/
def State.counted (s : State) : State := s.setStore { s.store with serial := wrapAdd32 s.store.serial 1 }

theorem State.drawSerial_eq (s : State) : s.drawSerial = s.counted.discardStale := rfl

theorem State.discardStale_discards {s : State} (hnodup : (s.heldItems.map Held.serial).Nodup) :
    Discards s.staleSerials s s.discardStale :=
  State.discardItems_discards ((s.heldSerials_nodup_iff.mp hnodup).1) s.staleItems

/-! ## Admission where nothing goes stale -/

/-- Where no item goes stale at the draw, the draw changes the counter alone. -/
theorem State.drawSerial_of_noneStale {s : State} (h : s.NoneStaleAfter 1) : s.drawSerial = s.counted := by
  have hfresh : s.counted.staleItems = [] := by
    refine List.filter_eq_nil_iff.mpr fun x hx => ?_
    obtain ⟨-, hage⟩ := h x hx
    simp only [decide_eq_true_eq, not_le]
    exact hage
  rw [State.drawSerial_eq, State.discardStale, hfresh]
  rfl

theorem State.fill_onlyDrop (s : State) (d : DropId) : OnlyDrop d s (s.fill d) := by
  obtain ⟨q, hfill, -⟩ := s.fill_spec d
  rw [hfill]
  exact s.onlyDrop_updLine d _

theorem State.admitItem_of_unassigned {s : State} {i : RegionId} (source : Option DropId) (h : Held)
    (hassigned : (s.region i).assigned = false) : s.admitItem i source h = s.countUnassigned source := by
  simp [State.admitItem, hassigned]

theorem State.admitItem_of_notOwed {s : State} {i : RegionId} (source : Option DropId) {h : Held}
    (hassigned : (s.region i).assigned = true) (howed : h.owed = false) :
    s.admitItem i source h = s.updRegion i Region.retireAtOnce := by
  simp [State.admitItem, hassigned, howed]

theorem State.admitItem_of_room {s : State} {i : RegionId} (source : Option DropId) {h : Held}
    (hroom : (s.region i).RoomFor 1) (howed : h.up = true ∨ h.drops ≠ 0#8) :
    s.admitItem i source h = (s.updRegion i (Region.join h)).fillNamed h.drops := by
  obtain ⟨hassigned, hlen⟩ := hroom
  have hlt : (s.region i).items.length < (s.region i).size := hlen
  simp [State.admitItem, hassigned, (Held.owed_iff h).mpr howed, hlt]

end Sys2Proof.Machine

open Sys2Proof Sys2Proof.Machine

/-- Settles O34: ITEM_STALE and the draw discard the stale items one after another, and each queue ends as filled from what
is left. -/
theorem staleItemsDiscarded : Obligations.StaleItemsDiscarded := by
  intro s hnodup
  refine ⟨fun hrun => ⟨s.discardStale, exec_running hrun, State.discardStale_discards hnodup⟩, s.counted, rfl, ?_⟩
  exact State.discardStale_discards (s := s.counted) hnodup

/-- Settles O32: admission is one update of the region or of a count, and filling is four additions at the queue's tail. -/
theorem itemAdmission : Obligations.ItemAdmission := by
  refine ⟨fun s d => ⟨s.fill_onlyDrop d, s.fill_filledFrom d⟩, fun s i source h => ⟨?pass, ?counted, ?retired, ?joined⟩⟩
  case pass =>
    rintro hassigned rfl
    rw [State.admitItem_of_unassigned none h hassigned]
    rfl
  case counted =>
    rintro d hassigned rfl
    rw [State.admitItem_of_unassigned (some d) h hassigned]
    unfold State.countUnassigned
    exact ⟨s.onlyDrop_updCounters d _, s.drop_updCounters_self d _⟩
  case retired =>
    intro hassigned hup hdrops
    rw [State.admitItem_of_notOwed source hassigned (by simp [Held.owed, hup, hdrops])]
    exact ⟨rfl, rfl, fun j hj => s.region_updRegion_ne _ hj, s.region_updRegion_self i _⟩
  case joined =>
    intro hroom howed
    rw [State.admitItem_of_room source hroom howed]
    have htouches := (s.updRegion i (Region.join h)).fillNamed_touches h.drops
    refine ⟨?_, ?_, fun j hj => ?_, ?_, fun e => State.fillNamed_filled _ h.drops e⟩
    · rw [htouches.eq_of_drops]
      rfl
    · rw [htouches.store rfl]
      rfl
    · exact (htouches.region rfl j).trans (s.region_updRegion_ne _ hj)
    · exact (htouches.region rfl i).trans (s.region_updRegion_self i _)
end

section
/-! SUPPORT. R129 to R135: the law of deliveries, split into what the store holds (`State.Stocked`) and what the copy queues
name (`State.QueuesNameOwed`), and what each operation of the store keeps of the two. Ages are bounded on both sides, because a
draw makes every held item one older before it discards the stale and before the newcomer, of age 0, joins. -/

namespace Sys2Proof.Machine

/- One proof after another: a thread for each would take more memory than a check has. -/
set_option Elab.async false

/-! ## The law in two parts -/

/-- What the store holds: distinct serials of ages from `lo` below `hi`, oldest first in each region, each owed to somebody. -/
structure State.Stocked (lo hi : Nat) (s : State) : Prop where
  counter : s.store.serial < Config.serialEnd
  own : ∀ i, (s.region i).serials.Nodup
  apart : ∀ i j, i < j → (s.region i).serials.Disjoint (s.region j).serials
  fresh : ∀ i, ∀ n ∈ (s.region i).serials, n < Config.serialEnd ∧ lo ≤ s.ageOf n ∧ s.ageOf n < hi
  ordered : ∀ i, (s.region i).serials.Pairwise (fun m n => s.ageOf n < s.ageOf m)
  owed : ∀ i, ∀ h ∈ (s.region i).items, h.owed = true

/-- Every copy queue names, once each, held items whose sets name its drop. -/
def State.QueuesNameOwed (s : State) : Prop :=
  ∀ d, (s.drop d).line.copyQueue.Nodup ∧ ∀ n ∈ (s.drop d).line.copyQueue, s.Owes d n

theorem Region.mem_serials {r : Region} {n : Nat} : n ∈ r.serials ↔ ∃ h ∈ r.items, h.serial = n := List.mem_map

theorem State.deliveryLaw_iff (s : State) : s.DeliveryLaw ↔ s.Stocked 0 Config.staleAge ∧ s.QueuesNameOwed := by
  constructor
  · intro h
    obtain ⟨hown, hapart⟩ := s.heldSerials_nodup_iff.mp h.distinct
    refine ⟨⟨h.counter, hown, hapart, fun i n hn => ?_, fun i => List.pairwise_map.mpr (h.ordered i),
      fun i x hx => h.owed x ((s.mem_heldItems_iff x).mpr ⟨i, hx⟩)⟩, fun d => ⟨h.once d, h.queued d⟩⟩
    obtain ⟨x, hx, rfl⟩ := Region.mem_serials.mp hn
    obtain ⟨hserial, hage⟩ := h.fresh x ((s.mem_heldItems_iff x).mpr ⟨i, hx⟩)
    exact ⟨hserial, Nat.zero_le _, hage⟩
  · rintro ⟨h, hq⟩
    refine ⟨h.counter, s.heldSerials_nodup_iff.mpr ⟨h.own, h.apart⟩, fun x hx => ?_, fun x hx => ?_,
      fun i => List.pairwise_map.mp (h.ordered i), fun d => (hq d).1, fun d => (hq d).2⟩
    · obtain ⟨i, hi⟩ := (s.mem_heldItems_iff x).mp hx
      obtain ⟨hserial, -, hage⟩ := h.fresh i _ (List.mem_map_of_mem hi)
      exact ⟨hserial, hage⟩
    · obtain ⟨i, hi⟩ := (s.mem_heldItems_iff x).mp hx
      exact h.owed i x hi

theorem State.ageOf_eq_of_serial {s t : State} (h : t.store.serial = s.store.serial) (n : Nat) : t.ageOf n = s.ageOf n := by
  unfold State.ageOf
  rw [h]

/-- Items leave, or change in nothing but their sets: what is left is still stocked. -/
theorem State.Stocked.shrink {lo hi hi' : Nat} {s t : State} (h : s.Stocked lo hi)
    (hserial : t.store.serial = s.store.serial) (hsub : ∀ i, (t.region i).serials.Sublist (s.region i).serials)
    (howed : ∀ i, ∀ x ∈ (t.region i).items, x.owed = true)
    (hyoung : ∀ i, ∀ n ∈ (t.region i).serials, s.ageOf n < hi → s.ageOf n < hi') : t.Stocked lo hi' where
  counter := hserial ▸ h.counter
  own i := (hsub i).nodup (h.own i)
  apart i j hij := List.disjoint_of_subset_left (hsub i).subset (List.disjoint_of_subset_right (hsub j).subset (h.apart i j hij))
  fresh i n hn := by
    obtain ⟨hend, hlo, hhi⟩ := h.fresh i n ((hsub i).subset hn)
    rw [State.ageOf_eq_of_serial hserial]
    exact ⟨hend, hlo, hyoung i n hn hhi⟩
  ordered i := by
    simp only [State.ageOf_eq_of_serial hserial]
    exact (h.ordered i).sublist (hsub i)
  owed := howed

/-- An item of the serial just drawn joins a region as its newest. -/
theorem State.Stocked.joined {hi : Nat} {s t : State} {i : RegionId} {kept : List Nat} (h : s.Stocked 1 hi) (hhi : 0 < hi)
    (hserial : t.store.serial = s.store.serial) (hsame : ∀ j, j ≠ i → t.region j = s.region j)
    (hsub : kept.Sublist (s.region i).serials) (hjoined : (t.region i).serials = kept ++ [s.store.serial])
    (howed : ∀ x ∈ (t.region i).items, x.owed = true) : t.Stocked 0 hi := by
  have hcounter := h.counter
  have hzero : s.ageOf s.store.serial = 0 := by
    simp only [State.ageOf, Config.serialEnd] at hcounter ⊢
    omega
  have hnew (j : RegionId) : s.store.serial ∉ (s.region j).serials := by
    intro hmem
    obtain ⟨-, hlo, -⟩ := h.fresh j _ hmem
    omega
  refine ⟨hserial ▸ hcounter, fun j => ?own, fun j k hjk => ?apart, fun j n hn => ?fresh, fun j => ?ordered,
    fun j x hx => ?owed⟩
  case own =>
    by_cases hj : j = i
    · subst hj
      rw [hjoined]
      exact List.nodup_append.mpr ⟨hsub.nodup (h.own j), List.nodup_singleton _, fun a ha b hb heq =>
        hnew j (hsub.subset (by rwa [← List.mem_singleton.mp hb, ← heq]))⟩
    · rw [hsame j hj]; exact h.own j
  case apart =>
    by_cases hj : j = i
    · subst hj
      rw [hjoined, hsame k hjk.ne']
      refine List.disjoint_append_left.mpr ⟨List.disjoint_of_subset_left hsub.subset (h.apart j k hjk), ?_⟩
      exact List.singleton_disjoint.mpr (hnew k)
    · rw [hsame j hj]
      by_cases hk : k = i
      · subst hk
        rw [hjoined]
        refine List.disjoint_append_right.mpr ⟨List.disjoint_of_subset_right hsub.subset (h.apart j k hjk), ?_⟩
        exact List.disjoint_singleton.mpr (hnew j)
      · rw [hsame k hk]; exact h.apart j k hjk
  case fresh =>
    rw [State.ageOf_eq_of_serial hserial]
    by_cases hj : j = i
    · subst hj
      rw [hjoined] at hn
      rcases List.mem_append.mp hn with hn | hn
      · obtain ⟨hend, -, hage⟩ := h.fresh j n (hsub.subset hn)
        exact ⟨hend, Nat.zero_le _, hage⟩
      · rw [List.mem_singleton.mp hn]
        exact ⟨hcounter, Nat.zero_le _, hzero.symm ▸ hhi⟩
    · rw [hsame j hj] at hn
      obtain ⟨hend, -, hage⟩ := h.fresh j n hn
      exact ⟨hend, Nat.zero_le _, hage⟩
  case ordered =>
    simp only [State.ageOf_eq_of_serial hserial]
    by_cases hj : j = i
    · subst hj
      rw [hjoined]
      refine List.pairwise_append.mpr ⟨(h.ordered j).sublist hsub, List.pairwise_singleton _ _, fun a ha b hb => ?_⟩
      obtain ⟨-, hlo, -⟩ := h.fresh j a (hsub.subset ha)
      rw [List.mem_singleton.mp hb, hzero]
      exact hlo
    · rw [hsame j hj]; exact h.ordered j
  case owed =>
    by_cases hj : j = i
    · subst hj; exact howed x hx
    · rw [hsame j hj] at hx; exact h.owed j x hx

/-- Regions and serial counter as they were. -/
theorem State.Stocked.congr {lo hi : Nat} {s t : State} (h : s.Stocked lo hi) (hserial : t.store.serial = s.store.serial)
    (hitems : ∀ i, (t.region i).items = (s.region i).items) : t.Stocked lo hi :=
  h.shrink hserial (fun i => by unfold Region.serials; rw [hitems i]) (fun i x hx => h.owed i x (hitems i ▸ hx))
    (fun _ _ _ => id)

theorem State.Stocked.weaken {lo hi : Nat} {s : State} (h : s.Stocked lo hi) : s.Stocked 0 hi :=
  { h with fresh := fun i n hn => ⟨(h.fresh i n hn).1, Nat.zero_le _, (h.fresh i n hn).2.2⟩ }

/-- The counter is increased: every held item is one older. -/
theorem State.Stocked.counted {s : State} (h : s.Stocked 0 Config.staleAge) :
    s.counted.Stocked 1 (Config.staleAge + 1) := by
  have hage (n : Nat) (hn : n < Config.serialEnd) (hfresh : s.ageOf n < Config.staleAge) :
      s.counted.ageOf n = s.ageOf n + 1 := by
    have hcounter := h.counter
    simp only [State.ageOf, State.counted, State.setStore, wrapAdd32, Config.serialEnd, Config.staleAge]
      at hcounter hn hfresh ⊢
    omega
  refine ⟨Nat.mod_lt _ (by decide), h.own, h.apart, fun i n hn => ?_, fun i => ?_, h.owed⟩
  · obtain ⟨hend, -, hfresh⟩ := h.fresh i n hn
    rw [hage n hend hfresh]
    exact ⟨hend, Nat.le_add_left _ _, Nat.succ_lt_succ hfresh⟩
  · refine (h.ordered i).imp_of_mem fun {m n} hm hn hmn => ?_
    obtain ⟨hend, -, hfresh⟩ := h.fresh i m hm
    obtain ⟨hend', -, hfresh'⟩ := h.fresh i n hn
    rw [hage m hend hfresh, hage n hend' hfresh']
    exact Nat.succ_lt_succ hmn

/-! ## Copy queues -/

theorem State.owes_iff (s : State) (d : DropId) (n : Nat) :
    s.Owes d n ↔ ∃ i, ∃ h ∈ (s.region i).items, h.serial = n ∧ names h.drops d = true := by
  simp only [State.Owes, State.mem_heldItems_iff]
  constructor
  · rintro ⟨h, ⟨i, hi⟩, hrest⟩; exact ⟨i, h, hi, hrest⟩
  · rintro ⟨i, h, hi, hrest⟩; exact ⟨h, ⟨i, hi⟩, hrest⟩

theorem State.owes_congr {s t : State} (hitems : ∀ i, (t.region i).items = (s.region i).items) (d : DropId) (n : Nat) :
    t.Owes d n ↔ s.Owes d n := by
  simp only [State.owes_iff, hitems]

/-- Queues lose entries, and the items that stay in them stay owed. -/
theorem State.QueuesNameOwed.shrink {s t : State} (h : s.QueuesNameOwed)
    (hsub : ∀ d, (t.drop d).line.copyQueue.Sublist (s.drop d).line.copyQueue)
    (howes : ∀ d, ∀ n ∈ (t.drop d).line.copyQueue, s.Owes d n → t.Owes d n) : t.QueuesNameOwed :=
  fun d => ⟨(hsub d).nodup (h d).1, fun n hn => howes d n hn ((h d).2 n ((hsub d).subset hn))⟩

theorem State.Filled.nodup {s : State} {d : DropId} {q q' : List Nat} (h : s.Filled d q q') (hq : q.Nodup) :
    q'.Nodup := by
  obtain ⟨more, rfl, -, howed, hsorted, -⟩ := h
  refine List.nodup_append.mpr ⟨hq, hsorted.imp fun hmn => hmn.1, fun a ha b hb heq => ?_⟩
  exact (howed b hb).1 (heq ▸ ha)

theorem State.Filled.owes {s : State} {d : DropId} {q q' : List Nat} (h : s.Filled d q q') (hq : ∀ n ∈ q, s.Owes d n) :
    ∀ n ∈ q', s.Owes d n := by
  obtain ⟨more, rfl, -, howed, -⟩ := h
  intro n hn
  rcases List.mem_append.mp hn with hn | hn
  · exact hq n hn
  · exact (howed n hn).2

theorem State.QueuesNameOwed.fill {s : State} (h : s.QueuesNameOwed) (d : DropId) : (s.fill d).QueuesNameOwed := by
  have howes (e : DropId) (n : Nat) : (s.fill d).Owes e n ↔ s.Owes e n :=
    State.owes_congr (fun i => congrArg Region.items ((s.fill_touches d).region rfl i)) e n
  intro e
  by_cases he : e = d
  · subst he
    obtain ⟨q, hq, hfilled⟩ := s.fill_filledFrom e
    rw [hq]
    exact ⟨hfilled.nodup (h e).1, hfilled.owes fun n hn => (howes e n).mpr ((h e).2 n hn)⟩
  · rw [State.drop_fill_ne s he]
    exact ⟨(h e).1, fun n hn => (howes e n).mpr ((h e).2 n hn)⟩

/-! ## Kept through the operations -/

/-- The stock is bounded as given, and the queues name what is owed. -/
structure State.Delivers (lo hi : Nat) (s : State) : Prop where
  stocked : s.Stocked lo hi
  queues : s.QueuesNameOwed

theorem State.deliveryLaw_iff_delivers (s : State) : s.DeliveryLaw ↔ s.Delivers 0 Config.staleAge :=
  s.deliveryLaw_iff.trans ⟨fun h => ⟨h.1, h.2⟩, fun h => ⟨h.stocked, h.queues⟩⟩

namespace State.Delivers

variable {lo hi : Nat} {s t : State}

theorem weaken (h : s.Delivers lo hi) : s.Delivers 0 hi := ⟨h.stocked.weaken, h.queues⟩

/-- Items and counter stay, and queues lose entries at most. -/
theorem congr (h : s.Delivers lo hi) (hserial : t.store.serial = s.store.serial)
    (hitems : ∀ i, (t.region i).items = (s.region i).items)
    (hsub : ∀ d, (t.drop d).line.copyQueue.Sublist (s.drop d).line.copyQueue) : t.Delivers lo hi :=
  ⟨h.stocked.congr hserial hitems, h.queues.shrink hsub fun d n _ => (State.owes_congr hitems d n).mpr⟩

theorem fill (h : s.Delivers lo hi) (d : DropId) : (s.fill d).Delivers lo hi :=
  ⟨h.stocked.congr (congrArg Store.serial ((s.fill_touches d).store rfl))
    (fun i => congrArg Region.items ((s.fill_touches d).region rfl i)), h.queues.fill d⟩

theorem fillNamed (h : s.Delivers lo hi) (m : DropMask) : (s.fillNamed m).Delivers lo hi := by
  rw [State.fillNamed_eq]
  generalize allDrops = l
  induction l generalizing s with
  | nil => exact h
  | cons d l ih =>
    refine ih ?_
    unfold State.fillIfNamed
    split
    · exact h.fill d
    · exact h

/-- Discarded items leave the store and the queues, which are filled from what is left. -/
theorem discards {hi' : Nat} {ns : List Nat} (h : s.Delivers lo hi) (hdiscards : Discards ns s t)
    (hyoung : ∀ i, ∀ n ∈ (s.region i).serials, n ∉ ns → s.ageOf n < hi → s.ageOf n < hi') : t.Delivers lo hi' := by
  obtain ⟨hframe, hregions, hdrops⟩ := hdiscards
  have hitems (i : RegionId) : (t.region i).items = (s.region i).items.filter (fun x => !ns.contains x.serial) := by
    obtain ⟨n, -, hregion⟩ := hregions i
    rw [hregion]
  have hmem (i : RegionId) (x : Held) (hx : x ∈ (t.region i).items) : x ∈ (s.region i).items ∧ x.serial ∉ ns := by
    rw [hitems i] at hx
    obtain ⟨hx, hns⟩ := List.mem_filter.mp hx
    exact ⟨hx, by simpa using hns⟩
  have howes (d : DropId) (n : Nat) (hn : n ∉ ns) (hs : s.Owes d n) : t.Owes d n := by
    obtain ⟨i, x, hx, rfl, hnames⟩ := (s.owes_iff d n).mp hs
    exact (t.owes_iff d _).mpr ⟨i, x, by rw [hitems i]; exact List.mem_filter.mpr ⟨hx, by simpa using hn⟩, rfl, hnames⟩
  refine ⟨h.stocked.shrink (hframe ▸ rfl) (fun i => ?_) (fun i x hx => h.stocked.owed i x (hmem i x hx).1)
    (fun i n hn => ?_), fun d => ?_⟩
  · unfold Region.serials
    rw [hitems i]
    exact List.filter_sublist.map _
  · obtain ⟨x, hx, rfl⟩ := Region.mem_serials.mp hn
    exact hyoung i _ (List.mem_map_of_mem (hmem i x hx).1) (hmem i x hx).2
  · obtain ⟨honce, hqueued⟩ := h.queues d
    have hdrop := hdrops d
    split at hdrop
    next =>
      obtain ⟨q, hq, hfilled⟩ := hdrop
      rw [hq]
      refine ⟨hfilled.nodup (List.filter_sublist.nodup honce), hfilled.owes fun n hn => ?_⟩
      obtain ⟨hn, hns⟩ := List.mem_filter.mp hn
      exact howes d n (by simpa using hns) (hqueued n hn)
    next hnone =>
      rw [hdrop]
      exact ⟨honce, fun n hn => howes d n (fun hns => hnone ⟨n, hns, hn⟩) (hqueued n hn)⟩

theorem discardItems (h : s.Delivers lo hi) (items : List Held) : (s.discardItems items).Delivers lo hi :=
  h.discards (State.discardItems_discards h.stocked.own items) fun _ _ _ _ => id

theorem discardStale (h : s.Delivers lo hi) : s.discardStale.Delivers lo Config.staleAge := by
  refine h.discards (State.discardStale_discards (s.heldSerials_nodup_iff.mpr ⟨h.stocked.own, h.stocked.apart⟩))
    fun i n hn hfresh _ => not_le.mp fun hstale => hfresh ?_
  obtain ⟨x, hx, rfl⟩ := Region.mem_serials.mp hn
  exact List.mem_map_of_mem (List.mem_filter.mpr ⟨(s.mem_heldItems_iff x).mpr ⟨i, hx⟩, decide_eq_true hstale⟩)

/-- A draw keeps the law, and leaves every item older than the one to come. -/
theorem drawSerial (h : s.Delivers 0 Config.staleAge) : s.drawSerial.Delivers 1 Config.staleAge :=
  discardStale (s := s.counted) ⟨h.stocked.counted,
    h.queues.shrink (t := s.counted) (fun _ => List.Sublist.refl _) fun _ _ _ => id⟩

/-- Sets change, by less than a queued copy needs. -/
theorem strip {f : Held → Held} (h : s.Delivers lo hi) (hserial : ∀ x, (f x).serial = x.serial)
    (hnames : ∀ d x, x.serial ∈ (s.drop d).line.copyQueue → names x.drops d = true → names (f x).drops d = true) :
    (s.strip f).Delivers lo hi := by
  have hitems (i : RegionId) : ((s.strip f).region i).items = ((s.region i).items.map f).filter Held.owed :=
    congrArg Region.items (s.region_updAllRegions _ i)
  refine ⟨h.stocked.shrink rfl (fun i => ?_) (fun i x hx => ?_) (fun _ _ _ => id),
    h.queues.shrink (fun _ => List.Sublist.refl _) fun d n hn hs => ?_⟩
  · have hmap : (s.region i).serials = ((s.region i).items.map f).map Held.serial := by
      rw [List.map_map]
      exact (List.map_congr_left fun x _ => hserial x).symm
    rw [hmap]
    unfold Region.serials
    rw [hitems i]
    exact List.filter_sublist.map _
  · rw [hitems i] at hx
    exact (List.mem_filter.mp hx).2
  · obtain ⟨i, x, hx, rfl, hnamed⟩ := (s.owes_iff d n).mp hs
    have hnamed' := hnames d x hn hnamed
    refine ((s.strip f).owes_iff d _).mpr ⟨i, f x, ?_, hserial x, hnamed'⟩
    rw [hitems i]
    refine List.mem_filter.mpr ⟨List.mem_map_of_mem hx, (Held.owed_iff _).mpr (.inr fun hnone => ?_)⟩
    rw [hnone] at hnamed'
    simp [names] at hnamed'

/-- An item of the serial just drawn joins its region, in which items that no queue names may have made room. -/
theorem joins {i : RegionId} {x : Held} {kept : List Held} (h : s.Delivers 1 hi) (hhi : 0 < hi) (hx : x.serial = s.store.serial)
    (howed : x.owed = true) {f : Region → Region} (hf : (f (s.region i)).items = kept ++ [x])
    (hsub : kept.Sublist (s.region i).items)
    (hqueued : ∀ y ∈ (s.region i).items, y ∉ kept → ∀ d, y.serial ∉ (s.drop d).line.copyQueue) :
    (s.updRegion i f).Delivers 0 hi := by
  have hself : ((s.updRegion i f).region i).items = kept ++ [x] := by rw [State.region_updRegion_self, hf]
  refine ⟨h.stocked.joined (kept := kept.map Held.serial) hhi rfl (fun j hj => s.region_updRegion_ne f hj) (hsub.map _)
    ?_ (fun y hy => ?_), h.queues.shrink (fun _ => List.Sublist.refl _) fun d n hn hs => ?_⟩
  · unfold Region.serials
    rw [hself, List.map_append, ← hx]
    rfl
  · rw [hself] at hy
    rcases List.mem_append.mp hy with hy | hy
    · exact h.stocked.owed i y (hsub.subset hy)
    · exact List.mem_singleton.mp hy ▸ howed
  · obtain ⟨j, y, hy, rfl, hnamed⟩ := (s.owes_iff d n).mp hs
    refine (State.owes_iff _ d _).mpr ⟨j, y, ?_, rfl, hnamed⟩
    by_cases hj : j = i
    · subst hj
      rw [hself]
      exact List.mem_append_left _ (Classical.byContradiction fun hkept => hqueued y hy hkept d hn)
    · rw [State.region_updRegion_ne s f hj]
      exact hy

/-- A region counts, and holds what it held. -/
theorem updRegion_count (h : s.Delivers lo hi) {i : RegionId} {f : Region → Region}
    (hf : (f (s.region i)).items = (s.region i).items) : (s.updRegion i f).Delivers lo hi := by
  refine h.congr rfl (fun j => ?_) fun _ => List.Sublist.refl _
  rw [State.region_updRegion]
  split
  next hj => subst hj; exact hf
  next => rfl

end State.Delivers

/-- Reports and latches are not what deliveries depend on. -/
theorem Touches.delivers {bs : List Block} {lo hi : Nat} {s t : State} (ht : Touches bs s t)
    (hs : bs.contains .store = false := by rfl) (hd : bs.contains .drops = false := by rfl) (h : s.Delivers lo hi) :
    t.Delivers lo hi :=
  h.congr (congrArg Store.serial (ht.store hs)) (fun i => congrArg Region.items (ht.region hs i))
    fun d => ht.drop hd d ▸ List.Sublist.refl _

namespace State.Delivers

variable {lo hi : Nat} {s : State}

theorem meetFull (h : s.Delivers 1 hi) (hhi : 0 < hi) (i : RegionId) (source : Option DropId) {x : Held}
    (hx : x.serial = s.store.serial) (howed : x.owed = true) : (s.meetFull i source x).Delivers 0 hi := by
  refine (State.latch_touches _ _ _).delivers (h := ?_)
  split
  next =>
    refine fillNamed (h.joins hhi hx howed (kept := (s.region i).items.eraseP (fun y => !s.inFlight y.serial)) rfl
      List.eraseP_sublist fun y hy hgone d hqueued => ?_) x.drops
    have hflies : s.inFlight y.serial = true := (s.inFlight_iff _).mpr (.inl ⟨d, hqueued⟩)
    exact hgone ((List.mem_eraseP_of_neg (by simp [hflies])).mpr hy)
  next => exact (h.updRegion_count rfl).weaken

theorem admitItem (h : s.Delivers 1 hi) (hhi : 0 < hi) (i : RegionId) (source : Option DropId) {x : Held}
    (hx : x.serial = s.store.serial) : (s.admitItem i source x).Delivers 0 hi := by
  unfold State.admitItem
  split
  next =>
    cases source with
    | none => exact (h.congr (t := s.countUnassigned none) rfl (fun _ => rfl) fun _ => List.Sublist.refl _).weaken
    | some d =>
      refine (h.congr (t := s.countUnassigned (some d)) rfl (fun _ => rfl) fun e => ?_).weaken
      unfold State.countUnassigned
      rw [State.drop_updCounters]
      split <;> exact List.Sublist.refl _
  split
  next => exact (h.updRegion_count rfl).weaken
  next howed =>
    have howed' : x.owed = true := by simpa using howed
    split
    · exact fillNamed (h.joins hhi hx howed' rfl (List.Sublist.refl _) fun y hy hgone => absurd hy hgone) x.drops
    · exact h.meetFull hhi i source hx howed'

theorem createItem (h : s.Delivers 0 Config.staleAge) (d : DropId) (item : ItemBody) :
    (s.createItem d item).Delivers 0 Config.staleAge :=
  h.drawSerial.admitItem (by decide) _ _ rfl

theorem createPassCopy (h : s.Delivers 0 Config.staleAge) (item : ItemBody) (drops : DropMask) :
    (s.createPassCopy item drops).Delivers 0 Config.staleAge :=
  h.drawSerial.admitItem (by decide) _ _ rfl

end State.Delivers

end Sys2Proof.Machine
end

section
/-! SUPPORT. Six laws of the manual kept together (R36, R92, R100, R119, R129, R144, R152, R154, R158, R165). What an
operation does to places, routes, regions, serials and takes is said once for each operation; the commands only compose. -/

namespace Sys2Proof.Machine

/- One proof after another: a thread for each would take more memory than a check has. -/
set_option Elab.async false

/-! ## What is kept -/

/-- From `s` to `t` the laws of the tables are kept: places, routes, conservation and delivery. -/
structure State.KeepsTables (s t : State) : Prop where
  places : s.WithinPlaces → t.WithinPlaces
  routes : s.RoutesApart → t.RoutesApart
  conserved : s.Conserved → t.Conserved
  delivery : s.DeliveryLaw → t.DeliveryLaw

/-- From `s` to `t` the laws of the takes are kept too: the guard flag, and roll times that are past. -/
structure State.Keeps (s t : State) : Prop extends State.KeepsTables s t where
  guard : s.GuardTrue → t.GuardTrue
  rolled : s.RolledByNow → t.RolledByNow

theorem State.KeepsTables.refl (s : State) : s.KeepsTables s := ⟨id, id, id, id⟩

theorem State.KeepsTables.trans {s t u : State} (h : s.KeepsTables t) (h' : t.KeepsTables u) : s.KeepsTables u :=
  ⟨h'.places ∘ h.places, h'.routes ∘ h.routes, h'.conserved ∘ h.conserved, h'.delivery ∘ h.delivery⟩

theorem State.Keeps.refl (s : State) : s.Keeps s := ⟨.refl s, id, id⟩

theorem State.Keeps.trans {s t u : State} (h : s.Keeps t) (h' : t.Keeps u) : s.Keeps u :=
  ⟨h.toKeepsTables.trans h'.toKeepsTables, h'.guard ∘ h.guard, h'.rolled ∘ h.rolled⟩

/-- The last operation of several, where the ones before it are left to prove. -/
theorem State.Keeps.after {s t u : State} (h' : t.Keeps u) (h : s.Keeps t) : s.Keeps u := h.trans h'

theorem State.Keeps.thenIf {c : Prop} [Decidable c] {s t u : State} (h : s.Keeps t) (h' : t.Keeps u) :
    s.Keeps (if c then u else t) := by
  split
  · exact h.trans h'
  · exact h

theorem State.Keeps.orSame {c : Prop} [Decidable c] {s t : State} (h : s.Keeps t) : s.Keeps (if c then t else s) :=
  (State.Keeps.refl s).thenIf h

theorem State.Keeps.foldl {α : Type} {f : State → α → State} (h : ∀ (s : State) x, s.Keeps (f s x)) (l : List α)
    (s : State) : s.Keeps (l.foldl f s) := by
  induction l generalizing s with
  | nil => exact .refl s
  | cons x l ih => exact (h s x).trans (ih (f s x))

/-! ## What the laws depend on -/

/-- The queues and FIFOs of the trunk keep within their places. -/
structure Trunk.InPlaces (t : Trunk) : Prop where
  repliesA : t.sideA.replies.length ≤ 4
  repliesB : t.sideB.replies.length ≤ 4
  upFifo : t.upFifo.length ≤ 8
  downFifo : t.downFifo.length ≤ 8

/-- A trunk goes on with its routes, within its places. -/
structure Trunk.GoesOn (t t' : Trunk) : Prop where
  places : t.InPlaces → t'.InPlaces
  routes : t'.routes = t.routes

theorem Trunk.GoesOn.refl (t : Trunk) : t.GoesOn t := ⟨id, rfl⟩

theorem State.withinPlaces_iff (s : State) :
    s.WithinPlaces ↔ s.mgmt.queue.length ≤ 4 ∧ s.trunk.InPlaces ∧ ∀ d, (s.drop d).line.copyQueue.length ≤ 4 :=
  ⟨fun h => ⟨h.management, ⟨h.repliesA, h.repliesB, h.upFifo, h.downFifo⟩, h.copies⟩,
    fun ⟨hm, ht, hc⟩ => ⟨hm, ht.repliesA, ht.repliesB, ht.upFifo, ht.downFifo, hc⟩⟩

theorem State.RoutesApart.congr {s t : State} (h : s.RoutesApart) (hroutes : t.trunk.routes = s.trunk.routes) :
    t.RoutesApart := by
  have hroute (i : RouteId) : t.route i = s.route i := by unfold State.route; simp only [hroutes]
  exact ⟨by simpa only [hroute] using h.apart, by simpa only [hroute] using h.stations⟩

/-- A drop's queue loses entries at most; nothing else that the tables depend on is a drop's. -/
def Drop.QueueShrinks (x y : Drop) : Prop := y.line.copyQueue.Sublist x.line.copyQueue

/-- A drop's take rolls on, or stays closed, with the roll time it had. -/
structure Drop.TakeGoesOn (x y : Drop) : Prop where
  state : y.take.state = x.take.state
  rollTime : y.take.rollTime = x.take.rollTime

/-- What most operations do: the store stays, queues lose entries at most, and the trunk goes on. -/
theorem State.KeepsTables.of_parts {s t : State} (hstore : t.store.serial = s.store.serial)
    (hregions : t.store.regions = s.store.regions) (hqueues : ∀ d, (s.drop d).QueueShrinks (t.drop d))
    (htrunk : s.trunk.GoesOn t.trunk) (hmgmt : s.mgmt.queue.length ≤ 4 → t.mgmt.queue.length ≤ 4) : s.KeepsTables t where
  places h := by
    obtain ⟨hm, ht, hc⟩ := s.withinPlaces_iff.mp h
    exact t.withinPlaces_iff.mpr ⟨hmgmt hm, htrunk.places ht, fun d => (hqueues d).length_le.trans (hc d)⟩
  routes h := h.congr htrunk.routes
  conserved h i := by
    have hregion : t.region i = s.region i := by unfold State.region; simp only [hregions]
    exact hregion ▸ h i
  delivery h := by
    have hregion (i : RegionId) : t.region i = s.region i := by unfold State.region; simp only [hregions]
    exact t.deliveryLaw_iff_delivers.mpr
      ((s.deliveryLaw_iff_delivers.mp h).congr hstore (fun i => congrArg Region.items (hregion i)) hqueues)

theorem State.GuardTrue.congr {s t : State} (h : s.GuardTrue) (hflag : t.tracker.guardFlag = s.tracker.guardFlag)
    (htakes : ∀ d, (t.drop d).take.state = (s.drop d).take.state) : t.GuardTrue := by
  unfold State.GuardTrue at h ⊢
  simp only [hflag, htakes]
  exact h

theorem State.Keeps.of_takes {s t : State} (h : s.KeepsTables t) (hflag : t.tracker.guardFlag = s.tracker.guardFlag)
    (htime : s.clock.time ≤ t.clock.time) (htakes : ∀ d, (s.drop d).TakeGoesOn (t.drop d)) : s.Keeps t where
  toKeepsTables := h
  guard hg := hg.congr hflag fun d => (htakes d).state
  rolled hr d hrolling := by
    rw [(htakes d).rollTime]
    exact (hr d ((htakes d).state ▸ hrolling)).trans htime

/-! ## One block replaced -/

theorem Touches.keeps {bs : List Block} {s t : State} (h : Touches bs s t) (hclock : bs.contains .clock = false := by rfl)
    (htracker : bs.contains .tracker = false := by rfl) (hdrops : bs.contains .drops = false := by rfl)
    (hstore : bs.contains .store = false := by rfl) (htrunk : bs.contains .trunk = false := by rfl)
    (hmgmt : bs.contains .mgmt = false := by rfl) : s.Keeps t := by
  refine .of_takes (.of_parts ?_ ?_ (fun d => ?_) ?_ ?_) ?_ ?_ (fun d => ?_)
  · rw [h.store hstore]
  · rw [h.store hstore]
  · rw [h.drop hdrops d]; exact List.Sublist.refl _
  · rw [h.trunk htrunk]; exact .refl _
  · rw [h.mgmt hmgmt]; exact id
  · rw [h.tracker htracker]
  · rw [h.clock hclock]
  · rw [h.drop hdrops d]; exact ⟨rfl, rfl⟩

theorem State.setClock_keeps {s : State} {x : Clock} (h : s.clock.time ≤ x.time) : s.Keeps (s.setClock x) :=
  .of_takes (.of_parts rfl rfl (fun _ => List.Sublist.refl _) (.refl _) id) rfl h fun _ => ⟨rfl, rfl⟩

/-- The clock's other fields are written. -/
theorem State.setClock_keeps_of_time {s : State} {x : Clock} (h : x.time = s.clock.time := by rfl) : s.Keeps (s.setClock x) :=
  State.setClock_keeps h.ge

theorem State.atDivider_keeps (s : State) (k : DividerCount) : s.Keeps (s.atDivider k) := State.setClock_keeps le_rfl

theorem State.setCorrection_keeps (s : State) (c : Int) : s.Keeps (s.setCorrection c) := State.setClock_keeps le_rfl

theorem State.setTracker_keeps {s : State} {x : Tracker} (h : x.guardFlag = s.tracker.guardFlag := by rfl) :
    s.Keeps (s.setTracker x) :=
  .of_takes (.of_parts rfl rfl (fun _ => List.Sublist.refl _) (.refl _) id) h le_rfl fun _ => ⟨rfl, rfl⟩

theorem State.setTrunk_keeps {s : State} {x : Trunk} (h : s.trunk.GoesOn x) : s.Keeps (s.setTrunk x) :=
  .of_takes (.of_parts rfl rfl (fun _ => List.Sublist.refl _) h id) rfl le_rfl fun _ => ⟨rfl, rfl⟩

/-- The trunk's other fields are written. -/
theorem State.setTrunk_keeps_of_queues {s : State} {x : Trunk} (ha : x.sideA.replies = s.trunk.sideA.replies := by rfl)
    (hb : x.sideB.replies = s.trunk.sideB.replies := by rfl) (hup : x.upFifo = s.trunk.upFifo := by rfl)
    (hdown : x.downFifo = s.trunk.downFifo := by rfl) (hroutes : x.routes = s.trunk.routes := by rfl) :
    s.Keeps (s.setTrunk x) :=
  State.setTrunk_keeps ⟨fun h => ⟨ha ▸ h.repliesA, hb ▸ h.repliesB, hup ▸ h.upFifo, hdown ▸ h.downFifo⟩, hroutes⟩

theorem State.setMgmt_keeps {s : State} {x : Management} (h : s.mgmt.queue.length ≤ 4 → x.queue.length ≤ 4) :
    s.Keeps (s.setMgmt x) :=
  .of_takes (.of_parts rfl rfl (fun _ => List.Sublist.refl _) (.refl _) h) rfl le_rfl fun _ => ⟨rfl, rfl⟩

/-- The management unit's other fields are written. -/
theorem State.setMgmt_keeps_of_queue {s : State} {x : Management} (h : x.queue = s.mgmt.queue := by rfl) :
    s.Keeps (s.setMgmt x) :=
  State.setMgmt_keeps (h ▸ id)

theorem State.latch_keeps (s : State) (c : Cause) (d : Option DropId) : s.Keeps (s.latch c d) := (s.latch_touches c d).keeps

theorem State.latchLockLost_keeps (s : State) (old : TrackerState) : s.Keeps (s.latchLockLost old) :=
  (s.latchLockLost_touches old).keeps

/-- The drops change: the tables are kept where no queue gains an entry. -/
theorem State.KeepsTables.of_drops {s t : State} (h : Touches [.drops] s t)
    (hqueues : ∀ d, (s.drop d).QueueShrinks (t.drop d)) : s.KeepsTables t :=
  .of_parts (congrArg Store.serial (h.store rfl)) (congrArg Store.regions (h.store rfl)) hqueues
    (h.trunk rfl ▸ .refl _) (h.mgmt rfl ▸ id)

theorem State.updDrop_keepsTables {s : State} {d : DropId} {f : Drop → Drop} (h : (s.drop d).QueueShrinks (f (s.drop d))) :
    s.KeepsTables (s.updDrop d f) := by
  refine .of_drops (s.updDrop_touches d f) fun e => ?_
  rw [State.drop_updDrop]
  split
  next he => subst he; exact h
  next => exact List.Sublist.refl _

theorem State.updDrop_keeps {s : State} {d : DropId} {f : Drop → Drop} (h : (s.drop d).QueueShrinks (f (s.drop d)))
    (htake : (s.drop d).TakeGoesOn (f (s.drop d))) : s.Keeps (s.updDrop d f) := by
  refine .of_takes (State.updDrop_keepsTables h) rfl le_rfl fun e => ?_
  rw [State.drop_updDrop]
  split
  next he => subst he; exact htake
  next => exact ⟨rfl, rfl⟩

theorem State.updLine_keeps {s : State} {d : DropId} {f : Line → Line}
    (h : (f (s.drop d).line).copyQueue.Sublist (s.drop d).line.copyQueue) : s.Keeps (s.updLine d f) :=
  State.updDrop_keeps h ⟨rfl, rfl⟩

theorem State.updLine_keeps_of_queue {s : State} {d : DropId} {f : Line → Line}
    (h : (f (s.drop d).line).copyQueue = (s.drop d).line.copyQueue) : s.Keeps (s.updLine d f) :=
  State.updLine_keeps (h ▸ List.Sublist.refl _)

theorem State.updCounters_keeps (s : State) (d : DropId) (f : DropCounters → DropCounters) : s.Keeps (s.updCounters d f) :=
  State.updLine_keeps_of_queue rfl

theorem State.updProfile_keeps (s : State) (d : DropId) (f : Profile → Profile) : s.Keeps (s.updProfile d f) :=
  State.updDrop_keeps (List.Sublist.refl _) ⟨rfl, rfl⟩

theorem State.updCadence_keeps (s : State) (d : DropId) (f : Cadence → Cadence) : s.Keeps (s.updCadence d f) :=
  State.updDrop_keeps (List.Sublist.refl _) ⟨rfl, rfl⟩

theorem State.updDf_keeps (s : State) (d : DropId) (f : DfLine → DfLine) : s.Keeps (s.updDf d f) :=
  State.updDrop_keeps (List.Sublist.refl _) ⟨rfl, rfl⟩

theorem State.updTake_keepsTables (s : State) (d : DropId) (f : Take → Take) : s.KeepsTables (s.updTake d f) :=
  State.updDrop_keepsTables (List.Sublist.refl _)

theorem State.updTake_keeps {s : State} {d : DropId} {f : Take → Take}
    (hstate : (f (s.drop d).take).state = (s.drop d).take.state)
    (htime : (f (s.drop d).take).rollTime = (s.drop d).take.rollTime) : s.Keeps (s.updTake d f) :=
  State.updDrop_keeps (List.Sublist.refl _) ⟨hstate, htime⟩

theorem State.updAllDrops_keepsTables {s : State} {f : Drop → Drop} (h : ∀ x : Drop, x.QueueShrinks (f x)) :
    s.KeepsTables (s.updAllDrops f) := by
  refine .of_drops (s.updAllDrops_touches f) fun d => ?_
  rw [State.drop_updAllDrops]
  exact h _

/-! ## The guard announced (R36, R120) -/

theorem State.rolling_iff (s : State) (d : DropId) : s.rolling d = true ↔ (s.drop d).take.state = .rolling := beq_iff_eq

theorem State.announceGuard_guardTrue (s : State) : s.announceGuard.GuardTrue := by
  have hcount : (s.rollingCount != 0) = true ↔ ∃ d, (s.drop d).take.state = .rolling := by
    simp only [State.rollingCount, bne_iff_ne, ne_eq, List.length_eq_zero_iff, List.filter_eq_nil_iff, not_forall,
      ← State.rolling_iff]
    constructor
    · rintro ⟨d, -, hd⟩; exact ⟨d, not_not.mp hd⟩
    · rintro ⟨d, hd⟩; exact ⟨d, mem_allDrops d, not_not.mpr hd⟩
  exact hcount

/-- Takes open or close, and the guard is reassessed. -/
theorem State.KeepsTables.announced {s t : State} (h : s.KeepsTables t) (hrolled : s.RolledByNow → t.RolledByNow) :
    s.Keeps t.announceGuard where
  toKeepsTables := h.trans (.of_parts rfl rfl (fun _ => List.Sublist.refl _) (.refl _) id)
  guard _ := t.announceGuard_guardTrue
  rolled := hrolled

theorem State.closeTake_keeps (s : State) (d : DropId) (reason : CloseReason) : s.Keeps (s.closeTake d reason) := by
  refine (s.updTake_keepsTables d _).announced fun hr e hrolling => ?_
  rw [State.drop_updTake] at hrolling ⊢
  split at hrolling
  next => cases hrolling
  next he => rw [if_neg he]; exact hr e hrolling

/-! ## Conservation, region by region (R144) -/

theorem State.Conserved.updRegion {s : State} {i : RegionId} {f : Region → Region} (h : s.Conserved)
    (hf : (s.region i).Balanced → (f (s.region i)).Balanced) : (s.updRegion i f).Conserved := by
  intro j
  rw [State.region_updRegion]
  split
  next hj => subst hj; exact hf (h j)
  next => exact h j

theorem State.Conserved.updAllRegions {s : State} {f : Region → Region} (h : s.Conserved)
    (hf : ∀ r : Region, r.Balanced → (f r).Balanced) : (s.updAllRegions f).Conserved := by
  intro j
  rw [State.region_updAllRegions]
  exact hf _ (h j)

theorem State.Conserved.of_touches {bs : List Block} {s t : State} (h : s.Conserved) (ht : Touches bs s t)
    (hb : bs.contains .store = false := by rfl) : t.Conserved :=
  fun i => ht.region hb i ▸ h i

theorem Region.Balanced.discard {r : Region} (h : r.Balanced) (n : Nat) : (r.discard n).Balanced := by
  obtain ⟨hsum, ⟨ha, hr, hd⟩, hun⟩ := h
  unfold Region.discard
  split
  next hany =>
    obtain ⟨x, hx, hserial⟩ := List.any_eq_true.mp hany
    have hlen := List.length_eraseP_add_one (p := fun x => x.serial == n) hx hserial
    refine ⟨?_, ⟨ha, hr, Nat.mod_lt _ (by decide)⟩, fun hassigned => ?_⟩
    · simp only [wrapAdd32, Config.serialEnd]
      omega
    · rw [(hun hassigned).1] at hany
      cases hany
  next => exact ⟨hsum, ⟨ha, hr, hd⟩, hun⟩

theorem Region.Balanced.strip {r : Region} (h : r.Balanced) (f : Held → Held) : (r.strip f).Balanced := by
  obtain ⟨hsum, ⟨ha, hr, hd⟩, hun⟩ := h
  have hlen : ((r.items.map f).filter Held.owed).length ≤ (r.items.map f).length := List.length_filter_le _ _
  have hmap : (r.items.map f).length = r.items.length := List.length_map f
  refine ⟨?_, ⟨ha, Nat.mod_lt _ (by decide), hd⟩, fun hassigned => ?_⟩
  · simp only [Region.strip, wrapAdd32, Config.serialEnd]
    omega
  · obtain ⟨hitems, hacc, hret, hdis⟩ := hun hassigned
    refine ⟨?_, hacc, ?_, hdis⟩
    · simp only [Region.strip, hitems, List.map_nil, List.filter_nil]
    · simp only [Region.strip, hitems, hret, List.map_nil, List.filter_nil, List.length_nil]
      rfl

theorem Region.Balanced.retireAtOnce {r : Region} (h : r.Balanced) (hassigned : r.assigned = true) :
    r.retireAtOnce.Balanced := by
  obtain ⟨hsum, ⟨ha, hr, hd⟩, -⟩ := h
  refine ⟨?_, ⟨Nat.mod_lt _ (by decide), Nat.mod_lt _ (by decide), hd⟩,
    fun hun => absurd (hun.symm.trans hassigned) Bool.false_ne_true⟩
  simp only [Region.retireAtOnce, wrapAdd32, Config.serialEnd]
  omega

theorem Region.Balanced.join {r : Region} (h : r.Balanced) (hassigned : r.assigned = true) (x : Held) :
    (r.join x).Balanced := by
  obtain ⟨hsum, ⟨ha, hr, hd⟩, -⟩ := h
  refine ⟨?_, ⟨Nat.mod_lt _ (by decide), hr, hd⟩,
    fun hun => absurd (hun.symm.trans hassigned) Bool.false_ne_true⟩
  simp only [Region.join, wrapAdd32, Config.serialEnd, List.length_append, List.length_singleton]
  omega

theorem Region.Balanced.refuseItem {r : Region} (h : r.Balanced) (hassigned : r.assigned = true) :
    r.refuseItem.Balanced := by
  obtain ⟨hsum, ⟨ha, hr, hd⟩, -⟩ := h
  refine ⟨?_, ⟨Nat.mod_lt _ (by decide), hr, Nat.mod_lt _ (by decide)⟩,
    fun hun => absurd (hun.symm.trans hassigned) Bool.false_ne_true⟩
  simp only [Region.refuseItem, wrapAdd32, Config.serialEnd]
  omega

theorem Region.Balanced.displace {r : Region} (h : r.Balanced) (hassigned : r.assigned = true) {inFlight : Nat → Bool}
    (hany : r.items.any (fun x => !inFlight x.serial) = true) (x : Held) : (r.displace inFlight x).Balanced := by
  obtain ⟨hsum, ⟨ha, hr, hd⟩, -⟩ := h
  obtain ⟨y, hy, hfree⟩ := List.any_eq_true.mp hany
  have hlen := List.length_eraseP_add_one (p := fun x => !inFlight x.serial) hy hfree
  refine ⟨?_, ⟨Nat.mod_lt _ (by decide), hr, Nat.mod_lt _ (by decide)⟩,
    fun hun => absurd (hun.symm.trans hassigned) Bool.false_ne_true⟩
  simp only [Region.displace, wrapAdd32, Config.serialEnd, List.length_append, List.length_singleton]
  omega

namespace State.Conserved

variable {s : State}

theorem discardItem (h : s.Conserved) (n : Nat) : (s.discardItem n).Conserved := by
  intro i
  rw [State.region_discardItem]
  exact (h i).discard n

theorem discardItems (h : s.Conserved) (items : List Held) : (s.discardItems items).Conserved := by
  unfold State.discardItems
  induction items generalizing s with
  | nil => exact h
  | cons x items ih =>
    rw [List.foldl_cons]
    exact ih (h.discardItem x.serial)

theorem drawSerial (h : s.Conserved) : s.drawSerial.Conserved := by
  have hcounted : s.counted.Conserved := fun i => h i
  rw [State.drawSerial_eq, State.discardStale]
  exact hcounted.discardItems _

theorem meetFull (h : s.Conserved) {i : RegionId} (hassigned : (s.region i).assigned = true) (source : Option DropId)
    (x : Held) : (s.meetFull i source x).Conserved := by
  refine of_touches ?_ (State.latch_touches _ _ _)
  split
  next hfree =>
    have hany := (Bool.and_eq_true_iff.mp hfree).2
    exact (h.updRegion fun hr => hr.displace hassigned hany x).of_touches (State.fillNamed_touches _ _)
  next => exact h.updRegion fun hr => hr.refuseItem hassigned

theorem admitItem (h : s.Conserved) (i : RegionId) (source : Option DropId) (x : Held) :
    (s.admitItem i source x).Conserved := by
  unfold State.admitItem
  split
  next =>
    cases source with
    | none => exact h
    | some d =>
      unfold State.countUnassigned
      exact h.of_touches (s.updCounters_touches d _)
  next hassigned =>
    have hassigned' : (s.region i).assigned = true := by simpa using hassigned
    split
    · exact h.updRegion fun hr => hr.retireAtOnce hassigned'
    split
    · exact (h.updRegion fun hr => hr.join hassigned' x).of_touches (State.fillNamed_touches _ _)
    · exact h.meetFull hassigned' source x

end State.Conserved

/-! ## The operations of the store -/

theorem Drop.CopiesChange.takeGoesOn {x y : Drop} (h : x.CopiesChange y) : x.TakeGoesOn y :=
  ⟨congrArg Take.state h.take, congrArg Take.rollTime h.take⟩

/-- An operation of the store: of the drops, the copies alone change. -/
theorem State.Keeps.of_store {s t : State} (h : Touches [.drops, .store, .reports] s t) (hcopies : s.CopiesChange t)
    (hconserved : s.Conserved → t.Conserved) (hdelivers : s.Delivers 0 Config.staleAge → t.Delivers 0 Config.staleAge) :
    s.Keeps t := by
  refine .of_takes ⟨fun hp => ?_, fun hr => hr.congr (congrArg Trunk.routes (h.trunk rfl)), hconserved, fun hd => ?_⟩
    (congrArg Tracker.guardFlag (h.tracker rfl)) (congrArg Clock.time (h.clock rfl)).ge fun d => (hcopies d).takeGoesOn
  · obtain ⟨hm, ht, hc⟩ := s.withinPlaces_iff.mp hp
    exact t.withinPlaces_iff.mpr ⟨h.mgmt rfl ▸ hm, h.trunk rfl ▸ ht, fun d => (hcopies d).places (hc d)⟩
  · exact t.deliveryLaw_iff_delivers.mpr (hdelivers (s.deliveryLaw_iff_delivers.mp hd))

theorem State.fill_keeps (s : State) (d : DropId) : s.Keeps (s.fill d) :=
  .of_store ((s.fill_touches d).mono rfl) (s.fill_copiesChange d) (fun h => h.of_touches (s.fill_touches d))
    (fun h => h.fill d)

theorem State.discardItems_keeps (s : State) (items : List Held) : s.Keeps (s.discardItems items) :=
  .of_store ((s.discardItems_touches items).mono rfl) (s.discardItems_copiesChange items) (fun h => h.discardItems items)
    (fun h => h.discardItems items)

theorem State.createItem_keeps (s : State) (d : DropId) (item : ItemBody) : s.Keeps (s.createItem d item) :=
  .of_store ((s.createItem_touches d item).mono rfl) (s.createItem_copiesChange d item)
    (fun h => h.drawSerial.admitItem _ _ _) (fun h => h.createItem d item)

theorem State.createPassCopy_keeps (s : State) (item : ItemBody) (drops : DropMask) :
    s.Keeps (s.createPassCopy item drops) :=
  .of_store ((s.createPassCopy_touches item drops).mono rfl) (s.createPassCopy_copiesChange item drops)
    (fun h => h.drawSerial.admitItem _ _ _) (fun h => h.createPassCopy item drops)

/-- Sets change, by less than a queued copy needs. -/
theorem State.strip_keeps {s : State} {f : Held → Held} (hserial : ∀ x, (f x).serial = x.serial)
    (hnames : ∀ d x, x.serial ∈ (s.drop d).line.copyQueue → names x.drops d = true → names (f x).drops d = true) :
    s.Keeps (s.strip f) :=
  .of_store ((s.strip_touches f).mono rfl) (.of_drops rfl) (fun h => h.updAllRegions fun _ hr => hr.strip f)
    (fun h => h.strip hserial hnames)

/-- A drop out of a set leaves the others in. -/
theorem Held.names_withoutDrop {d e : DropId} (h : e ≠ d) (x : Held) : names (x.withoutDrop d).drops e = names x.drops e := by
  have hval : e.val ≠ d.val := fun heq => h (Fin.ext heq)
  have hmask : (maskOf d).getLsbD e.val = false := by
    simp only [maskOf, BitVec.getLsbD_shiftLeft, BitVec.getLsbD_one]
    have : ¬ e.val - d.val = 0 ∨ e.val < d.val := by omega
    rcases this with hsub | hlt
    · simp [hsub]
    · simp [hlt]
  simp only [names, Held.withoutDrop, BitVec.getLsbD_and, BitVec.getLsbD_not, hmask]
  simp

/-- A drop with nothing queued leaves every set (R138, R142). -/
theorem State.leaveSets_keeps {s : State} {d : DropId} (h : (s.drop d).line.copyQueue = []) : s.Keeps (s.leaveSets d) := by
  refine State.strip_keeps (fun _ => rfl) fun e x hqueued hnamed => ?_
  by_cases he : e = d
  · subst he
    rw [h] at hqueued
    cases hqueued
  · exact (Held.names_withoutDrop he x).trans hnamed

theorem State.leaveUnqueuedSets_keeps (s : State) (d : DropId) : s.Keeps (s.leaveUnqueuedSets d) := by
  refine State.strip_keeps (fun x => ?_) fun e x hqueued hnamed => ?_
  · split <;> rfl
  · split
    next => exact hnamed
    next hout =>
      have he : e ≠ d := by
        rintro rfl
        exact hout (List.contains_iff_mem.mpr hqueued)
      exact (Held.names_withoutDrop he x).trans hnamed

/-- A drop that has received an item leaves its set; the item has left the drop's queue before (R135). -/
theorem State.deliveredToDrop_keeps {s : State} {n : Nat} {d : DropId} (h : n ∉ (s.drop d).line.copyQueue) :
    s.Keeps (s.deliveredToDrop n d) := by
  refine State.strip_keeps (fun x => ?_) fun e x hqueued hnamed => ?_
  · split <;> rfl
  · split
    next hserial =>
      have he : e ≠ d := by
        rintro rfl
        exact h (beq_iff_eq.mp hserial ▸ hqueued)
      exact (Held.names_withoutDrop he x).trans hnamed
    next => exact hnamed

theorem State.deliveredUp_keeps (s : State) (n : Nat) : s.Keeps (s.deliveredUp n) := by
  refine State.strip_keeps (fun x => ?_) fun e x _ hnamed => ?_
  · split <;> rfl
  · split
    · exact hnamed
    · exact hnamed

theorem State.closeWithCut_keeps (s : State) (d : DropId) (reason : CloseReason) (p : Profile) (anchor : Int) :
    s.Keeps (s.closeWithCut d reason p anchor) :=
  (s.closeTake_keeps d reason).trans (State.createItem_keeps _ d _)

end Sys2Proof.Machine
end

section
/-! SUPPORT. Every command keeps the six laws: one composition for each operation that the commands are built from. The two
that need an argument of their own are the jam, which moves house time and roll times together (R119), and the epoch, which
keeps roll times past only short of the end of the 64 bits. -/

namespace Sys2Proof.Machine

/- One proof after another: a thread for each would take more memory than a check has. -/
set_option Elab.async false

/-! ## Lines (section 5) -/

@[simp] theorem Line.abort_copyQueue (counted : Bool) (l : Line) : (l.abort counted).copyQueue = l.copyQueue := by
  unfold Line.abort
  split <;> rfl

/-- An apply leaves a queue as it is, or empties it under NONE (R98). -/
theorem Line.applied_copyQueue_sublist (old new : Profile) (l : Line) :
    (l.applied old new).copyQueue.Sublist l.copyQueue := by
  have hshut (c : Bool) : (if c then (l.abort true).clearShift else l).copyQueue = l.copyQueue := by
    cases c with
    | false => rfl
    | true => exact l.abort_copyQueue true
  have hactivity (c : Bool) (m : Line) : (if c then { m with activity := false } else m).copyQueue = m.copyQueue := by
    cases c <;> rfl
  unfold Line.applied
  dsimp only
  generalize (old.lineFunction != new.lineFunction || old.clocking != new.clocking || old.lineRate != new.lineRate) = c
  have hbefore : (if old.lineFunction != new.lineFunction then
      { (if c then (l.abort true).clearShift else l) with activity := false }
      else if c then (l.abort true).clearShift else l).copyQueue = l.copyQueue := (hactivity _ _).trans (hshut c)
  generalize (if old.lineFunction != new.lineFunction then
      { (if c then (l.abort true).clearShift else l) with activity := false }
      else if c then (l.abort true).clearShift else l) = m at hbefore ⊢
  rw [← hbefore]
  have hwaits : (if new.lineFunction == .none then { m with slot := none, copyQueue := [], wait := false }
      else if new.clocking == .device then { m with wait := false }
      else if c && m.holding.isSome && !m.wait then m.startWait else m).copyQueue.Sublist m.copyQueue := by
    split
    · exact List.nil_sublist _
    split
    · exact List.Sublist.refl _
    split <;> exact List.Sublist.refl _
  split <;> exact hwaits

theorem State.countMalformed_keeps (s : State) (d : DropId) : s.Keeps (s.countMalformed d) :=
  (s.updCounters_keeps d _).trans (State.latch_keeps _ _ _)

theorem State.freeIntake_keeps (s : State) (d : DropId) : s.Keeps (s.freeIntake d) := by
  unfold State.freeIntake
  split
  · exact ((s.setIntake_touches _).keeps.trans (State.updCounters_keeps _ d _)).orSame
  · exact .refl s

theorem State.drop_freeIntake_copyQueue (s : State) (d e : DropId) :
    ((s.freeIntake d).drop e).line.copyQueue = (s.drop e).line.copyQueue := by
  unfold State.freeIntake
  split
  · split
    · rw [State.drop_updCounters]
      split <;> rfl
    · rfl
  · rfl

theorem State.disableDrop_keeps (s : State) (d : DropId) : s.Keeps (s.disableDrop d) := by
  have hlines : s.Keeps ((s.updLine d Line.disabled).updDf d (fun x => { x.lowered with waitsForBoundary := false })) :=
    (State.updLine_keeps (List.nil_sublist _)).trans (State.updDf_keeps _ d _)
  refine (hlines.trans (State.freeIntake_keeps _ d)).trans (State.leaveSets_keeps ?_)
  rw [State.drop_freeIntake_copyQueue, State.drop_updDf, if_pos rfl, State.drop_updLine_self]
  rfl

theorem State.wake_keeps (s : State) (d : DropId) : s.Keeps (s.wake d) :=
  (State.updLine_keeps_of_queue rfl).trans (State.fill_keeps _ d)

theorem State.goDormant_keeps (s : State) (d : DropId) (p : Profile) (anchor : Int) : s.Keeps (s.goDormant d p anchor) :=
  State.Keeps.thenIf (State.updLine_keeps_of_queue rfl)
    ((State.closeWithCut_keeps _ d _ p anchor).trans (State.latch_keeps _ _ _))

theorem State.quietCount_keeps (s : State) (d : DropId) (p : Profile) (anchor : Int) :
    s.Keeps (s.quietCount d p anchor) := by
  unfold State.quietCount
  refine State.Keeps.orSame ?_
  split
  · exact State.updLine_keeps_of_queue rfl
  split
  · exact .refl s
  · exact (State.updLine_keeps_of_queue rfl).thenIf (State.goDormant_keeps _ d p anchor)

theorem State.placeFrame_keeps (s : State) (d : DropId) (f : Frame) : s.Keeps (s.placeFrame d f) := by
  refine (State.updLine_keeps_of_queue ?_).orSame
  split <;> rfl

theorem State.stampReceived_keeps (s : State) (d : DropId) (words : List Word) : s.Keeps (s.stampReceived d words) := by
  have hshift : s.Keeps (s.updLine d Line.clearShift) := State.updLine_keeps_of_queue rfl
  unfold State.stampReceived
  split
  · exact hshift.trans ((State.updCounters_keeps _ d _).trans (State.latch_keeps _ _ _))
  split
  · exact hshift.trans ((State.updCounters_keeps _ d _).trans (State.latch_keeps _ _ _))
  · refine hshift.trans (State.updLine_keeps_of_queue ?_)
    unfold Line.store
    split <;> rfl

theorem State.lineActivity_keeps (s : State) (d : DropId) (c : LineChange) : s.Keeps (s.lineActivity d c) := by
  refine State.Keeps.orSame (State.Keeps.thenIf (State.updLine_keeps_of_queue ?_) (State.wake_keeps _ d))
  cases c with
  | drStartBit =>
    unfold Line.changed
    dsimp only
    split <;> rfl
  | _ => rfl

theorem State.lineStart_keeps (s : State) (d : DropId) : s.Keeps (s.lineStart d) := by
  refine State.Keeps.orSame ?_
  split
  · exact State.updLine_keeps_of_queue rfl
  · split
    · exact State.updLine_keeps_of_queue rfl
    · exact .refl s
  · exact .refl s

theorem State.copySent_keeps (s : State) (d : DropId) (n : Nat) : s.Keeps (s.copySent d n) := by
  refine ((State.updLine_keeps List.filter_sublist).trans (State.deliveredToDrop_keeps ?_)).trans (State.fill_keeps _ d)
  rw [State.drop_updLine_self]
  intro hmem
  exact bne_iff_ne.mp (List.mem_filter.mp hmem).2 rfl

theorem State.dropTransmitted_keeps (s : State) (d : DropId) : s.Keeps (s.dropTransmitted d) := by
  unfold State.dropTransmitted
  split
  · exact State.updLine_keeps_of_queue rfl
  · exact s.copySent_keeps d _
  · exact .refl s

/-! ## Profiles and boundary events (section 3) -/

theorem State.driveDf_keeps (s : State) (d : DropId) (k : DividerCount) : s.Keeps (s.driveDf d k) := s.updDf_keeps d _

theorem State.followAgain_keeps (s : State) (d : DropId) : s.Keeps (s.followAgain d) := s.updDf_keeps d _

theorem State.applyAnchor_keeps (s : State) (d : DropId) : s.Keeps (s.applyAnchor d) := s.updCadence_keeps d _

theorem State.adoptProfile_keeps (s : State) (d : DropId) (p : Profile) : s.Keeps (s.adoptProfile d p) :=
  ((s.updProfile_keeps d _).trans (State.updCadence_keeps _ d _)).thenIf (State.closeWithCut_keeps _ d _ _ _)

theorem State.settleEnabled_keeps (s : State) (d : DropId) (old p : Profile) : s.Keeps (s.settleEnabled d old p) :=
  (((s.updCadence_keeps d _).trans (State.updLine_keeps (Line.applied_copyQueue_sublist old p _))).thenIf
    (State.leaveUnqueuedSets_keeps _ d)).trans ((State.updDf_keeps _ d _).trans (State.fill_keeps _ d))

theorem State.applyProfile_keeps (s : State) (d : DropId) (p : Profile) : s.Keeps (s.applyProfile d p) := by
  unfold State.applyProfile State.settleDisabled
  refine (s.adoptProfile_keeps d p).trans ?_
  dsimp only
  split
  · exact State.settleEnabled_keeps _ d _ p
  · exact (State.disableDrop_keeps _ d).trans (State.updCadence_keeps _ d _)

theorem State.loadDisabled_keeps (s : State) (d : DropId) (p : Profile) : s.Keeps (s.loadDisabled d p) := by
  refine (s.updProfile_keeps d _).thenIf ?_
  refine .after (State.fill_keeps _ d) (.after (State.updLine_keeps_of_queue rfl) ?_)
  exact (State.updCadence_keeps _ d _).trans (State.updDf_keeps _ d _)

theorem State.finishBoundary_keeps (s : State) (d : DropId) (n t boundary : Nat) (wasWaiting : Bool) (p : Profile)
    (anchor : Int) : s.Keeps (s.finishBoundary d n t boundary wasWaiting p anchor) := by
  unfold State.finishBoundary
  exact ((s.placeFrame_keeps d _).trans (State.updDf_keeps _ d _)).trans
    ((State.quietCount_keeps _ d p anchor).trans (State.updCadence_keeps _ d _))

theorem State.boundaryEvent_keeps (s : State) (d : DropId) : s.Keeps (s.boundaryEvent d) := by
  unfold State.boundaryEvent
  dsimp only
  split
  next p _ =>
    exact (((s.driveDf_keeps d 0).trans (State.followAgain_keeps _ d)).trans (State.applyProfile_keeps _ d p)).thenIf
      (State.finishBoundary_keeps _ d _ _ _ _ _ _)
  next =>
    refine (s.followAgain_keeps d).trans ?_
    split
    · exact (State.applyAnchor_keeps _ d).trans (State.finishBoundary_keeps _ d _ _ _ _ _ _)
    · exact (State.updCadence_keeps _ d _).trans (State.finishBoundary_keeps _ d _ _ _ _ _ _)

theorem State.endPulse_keeps (s : State) (d : DropId) : s.Keeps (s.endPulse d) := by
  unfold State.endPulse
  split
  · exact (s.updDf_keeps d _).orSame
  · exact .refl s

/-! ## Completions at the intake (section 6) -/

theorem State.intakeTake_keeps (s : State) : s.Keeps s.intakeTake := by
  unfold State.intakeTake
  split
  · split
    · exact (s.setIntake_touches _).keeps.trans (State.updLine_keeps_of_queue rfl)
    · exact .refl s
  · exact .refl s

theorem State.buildSync_keeps (s : State) (d : DropId) (j : Judged) (ds : List DropId) : s.Keeps (s.buildSync d j ds) := by
  unfold State.buildSync
  split
  · exact s.latch_keeps _ _
  · have hnumber : s.Keeps (s.setStore { s.store with syncNumber := (s.store.syncNumber + 1) % 65536 }) :=
      .of_takes (.of_parts rfl rfl (fun _ => List.Sublist.refl _) (.refl _) id) rfl le_rfl fun _ => ⟨rfl, rfl⟩
    have hcounts (u : State) : u.Keeps
        (ds.foldl (fun s x => s.updTake x (fun t => { t with clapCount := satInc 65535 t.clapCount })) u) :=
      .foldl (fun v x => State.updTake_keeps rfl rfl) ds u
    exact (hnumber.trans (hcounts _)).trans (State.createItem_keeps _ d _)

/-- A take opens, with a roll time that is past (R115). -/
theorem State.openTake_keeps {s : State} {d : DropId} {f : Take → Take} (h : (f (s.drop d).take).rollTime ≤ s.clock.time) :
    s.Keeps (s.updTake d f).announceGuard := by
  refine (s.updTake_keepsTables d f).announced fun hr e hrolling => ?_
  rw [State.drop_updTake] at hrolling ⊢
  split
  next he => subst he; exact h
  next he => rw [if_neg he] at hrolling; exact hr e hrolling

theorem State.completeRoll_keeps (s : State) (d : DropId) (c : Converted) : s.Keeps (s.completeRoll d c) := by
  unfold State.completeRoll
  dsimp only
  -- from the end: the ROLL's own item, the take that opens, and a superseded take's CUT
  refine .after (State.updTake_keeps rfl rfl) (.after (State.createItem_keeps _ d _) ?_)
  refine .after (State.openTake_keeps (Nat.min_le_right _ _)) ?_
  exact State.Keeps.orSame ((State.updTake_keeps rfl rfl).trans (State.createItem_keeps _ d _))

theorem State.completeCut_keeps (s : State) (d : DropId) (c : Converted) : s.Keeps (s.completeCut d c) := by
  unfold State.completeCut
  split
  · exact (s.closeTake_keeps d _).trans (State.createItem_keeps _ d _)
  · exact s.createItem_keeps d _

theorem State.completeKind_keeps (s : State) (d : DropId) (c : Converted) : s.Keeps (s.completeKind d c) := by
  unfold State.completeKind
  split
  · exact s.completeRoll_keeps d c
  · exact s.completeCut_keeps d c
  · exact (s.createItem_keeps d _).trans (State.buildSync_keeps _ d _ _)
  · exact s.createItem_keeps d _
  · exact (s.setLabels_touches _).keeps.trans (State.createItem_keeps _ d _)

theorem State.completeStamp_keeps (s : State) (d : DropId) (r : Received) : s.Keeps (s.completeStamp d r) := by
  unfold State.completeStamp
  split
  · exact s.countMalformed_keeps d
  · split
    · exact s.completeKind_keeps d _
    · exact s.updCounters_keeps d _

theorem State.intakeComplete_keeps (s : State) : s.Keeps s.intakeComplete := by
  unfold State.intakeComplete
  split
  · exact (s.setIntake_touches _).keeps.trans (State.completeStamp_keeps _ _ _)
  · exact .refl s

/-! ## House clock and tracker (sections 1 and 2) -/

theorem Take.rebase_state (step : Int) (t : Take) : (t.rebase step).state = t.state := by
  unfold Take.rebase
  split <;> rfl

theorem Take.rebase_rollTime {step : Int} {t : Take} (h : t.state = .rolling) :
    (t.rebase step).rollTime = (max 0 ((t.rollTime : Int) + step)).toNat := by
  unfold Take.rebase
  rw [if_pos (beq_iff_eq.mpr h)]

theorem Drop.jammed_line (old new : Nat) (step : Int) (x : Drop) : (x.jammed old new step).line = x.line := by
  unfold Drop.jammed
  split <;> rfl

theorem Drop.jammed_take (old new : Nat) (step : Int) (x : Drop) : (x.jammed old new step).take = x.take := by
  unfold Drop.jammed
  split <;> rfl

/-- A jam's part at a drop: the cadence unit and the DF line, and then the take. -/
def Drop.reached (old new : Nat) (x : Drop) : Drop :=
  { x.jammed old new ((new : Int) - old) with take := x.take.rebase ((new : Int) - old) }

/-- House time after a jam of `e`. -/
def State.jamTime (s : State) (e : Int) : Nat := jammedTime s.clock.time e

/-- A jam, before its causes are latched. -/
def State.jamUnlatched (s : State) (e : Int) : State :=
  ((s.jamClock e).updAllDrops (Drop.reached s.clock.time (s.jamTime e))).setTracker { s.tracker with
    state := .track, lockCount := 0, outlierCount := 0, missingTime := 0, expiryDue := false, forceJam := false }

theorem vmap_vmap {α β γ : Type} {n : Nat} (f : α → β) (g : β → γ) (v : Vector α n) :
    vmap g (vmap f v) = vmap (fun x => g (f x)) v := by
  refine Vector.ext fun i hi => ?_
  rw [vmap_get, vmap_get, vmap_get]

theorem State.updAllDrops_updAllDrops (s : State) (f g : Drop → Drop) :
    (s.updAllDrops f).updAllDrops g = s.updAllDrops (fun x => g (f x)) := by
  unfold State.updAllDrops State.setDrops
  simp only [vmap_vmap]

theorem State.jam_eq (s : State) (e : Int) :
    s.jam e = ((s.jamUnlatched e).latch .timeStep none).latchLockLost s.tracker.state := by
  have hreached : (fun x : Drop => { x.jammed s.clock.time (s.jamTime e) ((s.jamTime e : Int) - s.clock.time) with
      take := (x.jammed s.clock.time (s.jamTime e) ((s.jamTime e : Int) - s.clock.time)).take.rebase
        ((s.jamTime e : Int) - s.clock.time) }) = Drop.reached s.clock.time (s.jamTime e) := by
    funext x
    rw [Drop.jammed_take]
    rfl
  have hdrops := (s.jamClock e).updAllDrops_updAllDrops
    (Drop.jammed s.clock.time (s.jamTime e) ((s.jamTime e : Int) - s.clock.time))
    (fun x => { x with take := x.take.rebase ((s.jamTime e : Int) - s.clock.time) })
  rw [hreached] at hdrops
  unfold State.jamUnlatched
  rw [← hdrops]
  rfl

@[simp] theorem State.jamUnlatched_drop (s : State) (e : Int) (d : DropId) :
    (s.jamUnlatched e).drop d = (s.drop d).reached s.clock.time (s.jamTime e) :=
  (s.jamClock e).drop_updAllDrops _ d

/-- A roll time that was past is past after the jam, which moves both by the same step (R119). -/
theorem State.jam_keeps (s : State) (e : Int) : s.Keeps (s.jam e) := by
  rw [State.jam_eq]
  refine State.Keeps.trans (State.Keeps.trans ⟨?tables, fun hg => ?guard, fun hr d hrolling => ?rolled⟩
    (State.latch_keeps _ _ _)) (State.latchLockLost_keeps _ _)
  case tables =>
    refine .of_parts rfl rfl (fun d => ?_) (.refl _) id
    rw [State.jamUnlatched_drop]
    unfold Drop.QueueShrinks Drop.reached
    rw [Drop.jammed_line]
  case guard =>
    refine hg.congr rfl fun d => ?_
    rw [State.jamUnlatched_drop]
    exact Take.rebase_state _ _
  case rolled =>
    rw [State.jamUnlatched_drop] at hrolling ⊢
    have hrolled : (s.drop d).take.state = .rolling := (Take.rebase_state _ _).symm.trans hrolling
    have hpast := hr d hrolled
    have htime : (s.jamUnlatched e).clock.time = s.jamTime e := rfl
    have hroll : ((s.drop d).reached s.clock.time (s.jamTime e)).take.rollTime = _ := Take.rebase_rollTime hrolled
    rw [hroll, htime]
    omega

theorem State.loopUpdate_keeps (s : State) (e : Int) : s.Keeps (s.loopUpdate e) :=
  (State.setTracker_keeps (s := s)
    (x := { s.tracker with
      drift := loopDrift s.part s.tracker.drift (loopQuotient e s.interval), lastInterval := s.interval }) rfl).trans
    (State.setCorrection_keeps _ _)

theorem State.loopToTrack_keeps (s : State) (e : Int) : s.Keeps (s.loopToTrack e) :=
  ((s.loopUpdate_keeps e).trans (State.setTracker_keeps)).trans (State.latchLockLost_keeps _ _)

theorem State.stepDecision_keeps (s : State) (e : Int) : s.Keeps (s.stepDecision e) := by
  unfold State.stepDecision
  split
  · exact s.jam_keeps e
  · refine .after (State.latchLockLost_keeps _ _) (.after (State.latch_keeps _ _ _) ?_)
    exact (State.setTracker_keeps).trans (State.setCorrection_keeps _ _)

theorem State.arriveTrack_keeps (s : State) (e : Int) : s.Keeps (s.arriveTrack e) := by
  unfold State.arriveTrack
  dsimp only
  split
  · exact ((s.loopUpdate_keeps e).trans (State.setTracker_keeps)).thenIf
      ((State.setTracker_keeps).trans (State.latch_keeps _ _ _))
  split
  · exact s.loopToTrack_keeps e
  · exact (State.setTracker_keeps).thenIf (State.stepDecision_keeps _ e)

theorem State.arriveLocked_keeps (s : State) (e : Int) : s.Keeps (s.arriveLocked e) := by
  unfold State.arriveLocked
  dsimp only
  split
  · exact (s.loopUpdate_keeps e).trans (State.setTracker_keeps)
  split
  · exact s.loopToTrack_keeps e
  · exact (State.setTracker_keeps).thenIf (State.stepDecision_keeps _ e)

theorem State.jamFrom_keeps (s : State) (e : Int) : s.Keeps (s.jamFrom e) := by
  unfold State.jamFrom
  split
  · exact (s.setCorrection_keeps _).trans (State.jam_keeps _ e)
  · exact s.jam_keeps e

theorem State.arriveSlew_keeps (s : State) (e : Int) : s.Keeps (s.arriveSlew e) := by
  unfold State.arriveSlew
  split
  · exact s.loopToTrack_keeps e
  split
  · exact s.setCorrection_keeps _
  split
  · exact s.setCorrection_keeps _
  · exact s.jamFrom_keeps e

theorem State.arriveByState_keeps (s : State) (e : Int) : s.Keeps (s.arriveByState e) := by
  unfold State.arriveByState
  split
  · exact s.jamFrom_keeps e
  split
  · exact s.jam_keeps e
  · exact s.arriveTrack_keeps e
  · exact s.arriveLocked_keeps e
  · exact s.arriveSlew_keeps e
  · unfold State.arriveFreewheel
    split
    · exact s.loopToTrack_keeps e
    · exact s.stepDecision_keeps e

theorem State.discipline_keeps (s : State) (e : Int) : s.Keeps (s.discipline e) :=
  ((State.setTracker_keeps).trans (State.arriveByState_keeps _ e)).trans (State.setTracker_keeps)

theorem State.enterFreewheel_keeps (s : State) : s.Keeps s.enterFreewheel :=
  (State.setTracker_keeps).trans (State.setCorrection_keeps _ _)

theorem State.missingTimeExpiry_keeps (s : State) : s.Keeps s.missingTimeExpiry :=
  State.Keeps.orSame (s.enterFreewheel_keeps.trans ((State.latch_keeps _ _ _).trans (State.latchLockLost_keeps _ _)))

theorem State.handOverTime_keeps (s : State) (words : List Word) : s.Keeps (s.handOverTime words) := by
  have hquality (u : State) (q : Quality) : u.Keeps (u.handQuality q) := by
    unfold State.handQuality
    dsimp only
    split
    · exact .refl u
    split
    · exact State.setTracker_keeps
    · exact (State.setTracker_keeps).trans (State.latch_keeps _ _ _)
  exact ((s.handRate_touches _).keeps.trans (State.setClock_keeps_of_time)).trans (hquality _ _)

theorem State.timeArrival_keeps (s : State) (words : List Word) (captured : Nat) :
    s.Keeps (s.timeArrival words captured) := by
  unfold State.timeArrival
  dsimp only
  split
  · exact s.handOverTime_keeps words
  · exact (s.missingTimeExpiry_keeps.trans (State.handOverTime_keeps _ words)).trans (State.discipline_keeps _ _)

theorem State.houseBoundary_keeps (s : State) : s.Keeps s.houseBoundary :=
  (s.countHoldoff_touches.keeps.trans (State.setHouse_touches _ _).keeps).trans
    (State.setTrunk_keeps_of_queues)

theorem State.holdTracker_keeps (s : State) : s.Keeps s.holdTracker := by
  unfold State.holdTracker
  split
  · exact .refl s
  · exact (s.enterFreewheel_keeps.trans (State.setTracker_keeps)).trans (State.latchLockLost_keeps _ _)

theorem State.resumeTracker_keeps (s : State) : s.Keeps s.resumeTracker :=
  State.Keeps.orSame (State.setTracker_keeps)

theorem State.writePart_keeps (s : State) (p : PartRecord) : s.Keeps (s.writePart p) :=
  (s.setPart_touches p).keeps.thenIf (State.setCorrection_keeps _ _)

/-- Every law but the roll times' is kept by an epoch, at whatever house time. -/
theorem State.epoch_keepsTables (s : State) : s.KeepsTables s.epoch := by
  have hcounted : Touches [.clock, .tracker] s (s.setClock s.clock.advance).countMissingTime :=
    (s.setClock_touches _).andThen (State.countMissingTime_touches _)
  refine .trans (.of_parts ?_ ?_ (fun d => ?_) ?_ ?_) (State.updAllDrops_keepsTables fun x => List.Sublist.refl _)
  · rw [hcounted.store rfl]
  · rw [hcounted.store rfl]
  · rw [hcounted.drop rfl d]; exact List.Sublist.refl _
  · rw [hcounted.trunk rfl]; exact .refl _
  · rw [hcounted.mgmt rfl]; exact id

theorem State.countMissingTime_guardFlag (s : State) : s.countMissingTime.tracker.guardFlag = s.tracker.guardFlag := by
  unfold State.countMissingTime
  split <;> rfl

theorem State.drop_epoch (s : State) (d : DropId) : s.epoch.drop d = (s.drop d).countStalls := by
  have hcounted : Touches [.clock, .tracker] s (s.setClock s.clock.advance).countMissingTime :=
    (s.setClock_touches _).andThen (State.countMissingTime_touches _)
  unfold State.epoch
  rw [State.drop_updAllDrops, hcounted.drop rfl d]

theorem State.epoch_guardTrue {s : State} (h : s.GuardTrue) : s.epoch.GuardTrue :=
  h.congr (State.countMissingTime_guardFlag _) fun d => by rw [s.drop_epoch d]; rfl

/-! ## The trunk (section 8) -/

theorem State.updPort_keeps {s : State} {side : Side} {f : Port → Port}
    (h : (s.port side).replies.length ≤ 4 → (f (s.port side)).replies.length ≤ 4) : s.Keeps (s.updPort side f) := by
  cases side with
  | a => exact State.setTrunk_keeps ⟨fun ht => ⟨h ht.repliesA, ht.repliesB, ht.upFifo, ht.downFifo⟩, rfl⟩
  | b => exact State.setTrunk_keeps ⟨fun ht => ⟨ht.repliesA, h ht.repliesB, ht.upFifo, ht.downFifo⟩, rfl⟩

theorem State.setReceiver_keeps (s : State) (side : Side) (c : Receiver) : s.Keeps (s.setReceiver side c) :=
  State.updPort_keeps id

theorem State.updSideCounters_keeps (s : State) (side : Side) (f : SideCounters → SideCounters) :
    s.Keeps (s.updSideCounters side f) :=
  State.updPort_keeps id

theorem State.enterUp_keeps (s : State) (words : List Word) : s.Keeps (s.enterUp words) := by
  unfold State.enterUp
  split
  next hroom =>
    refine State.setTrunk_keeps ⟨fun ht => ⟨ht.repliesA, ht.repliesB, ?_, ht.downFifo⟩, rfl⟩
    rw [List.length_append]
    exact hroom
  next =>
    exact (State.setTrunk_keeps_of_queues).trans
      (State.latch_keeps _ _ _)

theorem State.enterDown_keeps (s : State) (words : List Word) : s.Keeps (s.enterDown words) := by
  unfold State.enterDown
  split
  next hroom =>
    refine State.setTrunk_keeps ⟨fun ht => ⟨ht.repliesA, ht.repliesB, ht.upFifo, ?_⟩, rfl⟩
    rw [List.length_append]
    exact hroom
  next =>
    exact (State.setTrunk_keeps_of_queues).trans
      (State.latch_keeps _ _ _)

theorem State.enterFifo_keeps (s : State) (side : Side) (words : List Word) : s.Keeps (s.enterFifo side words) := by
  cases side with
  | a => exact s.enterDown_keeps words
  | b => exact s.enterUp_keeps words

theorem State.queueRequest_keeps (s : State) (side : Side) (words : List Word) : s.Keeps (s.queueRequest side words) := by
  unfold State.queueRequest
  split
  next hroom =>
    refine State.setMgmt_keeps fun _ => ?_
    rw [List.length_append]
    exact hroom
  next => exact State.setMgmt_keeps_of_queue

theorem State.mgmtArrival_keeps (s : State) (side : Side) (words : List Word) : s.Keeps (s.mgmtArrival side words) := by
  unfold State.mgmtArrival
  split
  · exact (s.queueRequest_keeps side words).thenIf (State.enterDown_keeps _ words)
  split
  · exact s.queueRequest_keeps side words
  · exact s.enterFifo_keeps side words

theorem State.foreignArrival_keeps (s : State) (words : List Word) (k : RouteKind) (item : Option ItemBody) :
    s.Keeps (s.foreignArrival words k item) := by
  have hup : s.Keeps (if (s.lookup k (trunkSource words)).1 then s.enterUp words else s) := (s.enterUp_keeps words).orSame
  unfold State.foreignArrival
  dsimp only
  split
  · exact s.updSideCounters_keeps _ _
  cases item with
  | none => exact hup
  | some body => exact hup.thenIf (State.createPassCopy_keeps _ body _)

theorem State.classify_keeps (s : State) (side : Side) (words : List Word) (captured : Nat) :
    s.Keeps (s.classify side words captured) := by
  unfold State.classify
  split
  · unfold State.timePacketOnA
    split
    · exact s.updSideCounters_keeps _ _
    · exact s.timeArrival_keeps words captured
  · exact s.mgmtArrival_keeps _ _
  · exact s.enterDown_keeps _
  · exact s.updSideCounters_keeps _ _
  · exact s.foreignArrival_keeps _ _ _
  · exact s.foreignArrival_keeps _ _ _
  · exact s.enterUp_keeps _
  · exact s.enterUp_keeps _
  · exact s.enterUp_keeps _
  · exact s.mgmtArrival_keeps _ _
  · exact s.updSideCounters_keeps _ _

theorem State.judgePacket_keeps (s : State) (side : Side) (words : List Word) : s.Keeps (s.judgePacket side words) := by
  have hcounted (c : Receiver) (f : SideCounters → SideCounters) :
      s.Keeps ((s.setReceiver side c).updSideCounters side f) :=
    (s.setReceiver_keeps side c).trans (State.updSideCounters_keeps _ side f)
  unfold State.judgePacket
  split
  · exact (hcounted _ _).trans (State.latch_keeps _ _ _)
  split
  · exact (hcounted _ _).trans (State.latch_keeps _ _ _)
  · exact (hcounted _ _).trans (State.classify_keeps _ side words _)

theorem length_le_of_eq_cons {α : Type} {l rest : List α} {x : α} {n : Nat} (h : l = x :: rest) (hl : l.length ≤ n) :
    rest.length ≤ n := by
  subst h
  exact (Nat.le_succ _).trans hl

theorem State.startOnA_keeps (s : State) : s.Keeps s.startOnA := by
  unfold State.startOnA
  split
  next r rest _ _ hreplies =>
    exact State.setTrunk_keeps
      ⟨fun ht => ⟨length_le_of_eq_cons hreplies ht.repliesA, ht.repliesB, ht.upFifo, ht.downFifo⟩, rfl⟩
  next => exact State.setTrunk_keeps_of_queues
  next w rest _ _ hup =>
    exact State.setTrunk_keeps
      ⟨fun ht => ⟨ht.repliesA, ht.repliesB, length_le_of_eq_cons hup ht.upFifo, ht.downFifo⟩, rfl⟩
  next =>
    unfold State.startItem
    split
    · exact State.setTrunk_keeps_of_queues
    · exact .refl s

theorem State.sideATransmitted_keeps (s : State) : s.Keeps s.sideATransmitted := by
  unfold State.sideATransmitted
  split
  · exact .refl s
  next transmission _ =>
    have hcounted : s.Keeps ((s.setTrunk { s.trunk with transmissionA := none }).countTransmitted .a) :=
      (State.setTrunk_keeps_of_queues).trans
        (State.updSideCounters_keeps _ _ _)
    cases transmission with
    | item serial words => exact hcounted.trans (State.deliveredUp_keeps _ serial)
    | _ => exact hcounted

theorem State.startOnB_keeps (s : State) (k : DividerCount) : s.Keeps (s.startOnB k) := by
  unfold State.startOnB
  split
  next => exact State.setTrunk_keeps_of_queues
  next r rest _ _ hreplies =>
    exact State.setTrunk_keeps
      ⟨fun ht => ⟨ht.repliesA, length_le_of_eq_cons hreplies ht.repliesB, ht.upFifo, ht.downFifo⟩, rfl⟩
  next w rest _ _ hdown =>
    exact State.setTrunk_keeps
      ⟨fun ht => ⟨ht.repliesA, ht.repliesB, ht.upFifo, length_le_of_eq_cons hdown ht.downFifo⟩, rfl⟩
  next => exact .refl s

theorem State.trunkStartBit_keeps (s : State) (side : Side) (k : DividerCount) : s.Keeps (s.trunkStartBit side k) :=
  (s.atDivider_keeps k).thenIf (State.updPort_keeps id)

theorem State.trunkLostSignal_keeps (s : State) (side : Side) : s.Keeps (s.trunkLostSignal side) :=
  State.Keeps.orSame (((s.setReceiver_keeps side _).trans (State.updSideCounters_keeps _ side _)).trans
    (State.latch_keeps _ _ _))

theorem State.sideBTransmitted_keeps (s : State) : s.Keeps s.sideBTransmitted :=
  State.Keeps.orSame
    ((State.setTrunk_keeps_of_queues).trans
      (State.updSideCounters_keeps _ _ _))

theorem State.reportEmission_keeps (s : State) : s.Keeps s.reportEmission := by
  unfold State.reportEmission
  refine State.Keeps.orSame ?_
  split
  · exact (State.setTrunk_keeps_of_queues).trans
      (State.setReports_touches _ _).keeps
  · exact .refl s

/-! ## Replies and requests (section 9) -/

theorem State.enterReply_keeps {s : State} {r : Reply} (h : s.replyRoom r.side = true) : s.Keeps (s.enterReply r) := by
  refine State.updPort_keeps fun _ => ?_
  rw [List.length_append]
  exact of_decide_eq_true h

theorem State.handOver_keeps (s : State) (r : Reply) : s.Keeps (s.handOver r) := by
  unfold State.handOver
  split
  next h => exact State.enterReply_keeps (Bool.and_eq_true_iff.mp h).1
  next => exact State.setMgmt_keeps_of_queue

theorem State.trimReplyEntry_keeps (s : State) (side : Side) : s.Keeps (s.trimReplyEntry side) := by
  unfold State.trimReplyEntry
  split
  next r hfind =>
    have hside : r.side = side := by simpa using List.find?_some hfind
    subst hside
    split
    next hroom => exact State.Keeps.trans State.setMgmt_keeps_of_queue (State.enterReply_keeps (s := s.setMgmt _) hroom)
    next => exact .refl s
  next => exact .refl s

theorem State.enterWaitingTrims_keeps (s : State) (side : Side) : s.Keeps (s.enterWaitingTrims side) :=
  (((s.trimReplyEntry_keeps side).trans (State.trimReplyEntry_keeps _ side)).trans
    (State.trimReplyEntry_keeps _ side)).trans (State.trimReplyEntry_keeps _ side)

theorem State.heldReplyEntry_keeps (s : State) : s.Keeps s.heldReplyEntry := by
  unfold State.heldReplyEntry
  split
  · split
    next h =>
      have hroom := (Bool.and_eq_true_iff.mp h).1
      exact State.Keeps.trans State.setMgmt_keeps_of_queue (State.enterReply_keeps (s := s.setMgmt _) hroom)
    next => exact .refl s
  · exact .refl s

theorem State.trimReply_keeps (s : State) (r : Reply) : s.Keeps (s.trimReply r) := by
  unfold State.trimReply
  split
  next h =>
    obtain ⟨h, -⟩ := Bool.and_eq_true_iff.mp h
    exact State.enterReply_keeps (Bool.and_eq_true_iff.mp h).1
  next => exact State.setMgmt_keeps_of_queue

theorem State.trimWritten_keeps (s : State) : s.Keeps s.trimWritten := by
  unfold State.trimWritten
  split
  next w _ =>
    have hcell : s.Keeps (s.setTrim { value := w.captured, write := none }) := (s.setTrim_touches _).keeps
    dsimp only
    split
    · exact hcell.trans (State.trimReply_keeps _ _)
    · exact hcell
  next => exact .refl s

theorem Carried.answer_keeps (c : Carried) (r : Request) : c.state.Keeps (c.answer r) := by
  unfold Carried.answer
  split
  · split
    · exact .refl _
    · exact State.handOver_keeps _ _
  · exact .refl _

theorem State.takeRequest_keeps {k : RequestKind} {carry : Request → State → Carried}
    (hcarry : ∀ (r : Request) (u : State), u.Keeps (carry r u).state) (s : State) : s.Keeps (s.takeRequest k carry) := by
  unfold State.takeRequest
  split
  next r rest _ hqueue =>
    refine State.Keeps.orSame (.after (Carried.answer_keeps _ r) (State.Keeps.trans ?_ (hcarry r _)))
    exact State.setMgmt_keeps (length_le_of_eq_cons hqueue)
  next => exact .refl s

theorem carryLoad_keeps {owner : Nat → List Word → State → Carried}
    (howner : ∀ i ws (u : State), u.Keeps (owner i ws u).state) (t : Table) (r : Request) (u : State) :
    u.Keeps (carryLoad t owner r u).state := by
  unfold carryLoad
  split
  · exact howner _ _ u
  · exact .refl u

theorem carryDropControl_keeps {act : DropId → State → State} (hact : ∀ d (u : State), u.Keeps (act d u)) (r : Request)
    (u : State) : u.Keeps (carryDropControl act r u).state := by
  unfold carryDropControl
  split
  · exact hact _ u
  · exact .refl u

theorem carryControl_keeps {act : State → State} (hact : ∀ u : State, u.Keeps (act u)) (r : Request) (u : State) :
    u.Keeps (carryControl act r u).state :=
  hact u

theorem State.takeRead_keeps (s : State) (t : Table) (record : Nat → State → List Word) :
    s.Keeps (s.takeRequest (.read t) (carryRead t record)) :=
  State.takeRequest_keeps (fun r u => (carryRead_touches t record r u).keeps) s

theorem State.acceptProfile_keeps (s : State) (d : DropId) (p : Profile) : s.Keeps (s.acceptProfile d p) := by
  unfold State.acceptProfile
  split
  · exact s.updCadence_keeps d _
  · exact s.loadDisabled_keeps d p

theorem ownLoadProfile_keeps (i : Nat) (ws : List Word) (u : State) : u.Keeps (ownLoadProfile i ws u).state := by
  unfold ownLoadProfile
  split
  · exact .refl u
  split
  · exact .refl u
  · exact u.acceptProfile_keeps _ _

/-- A record that is written keeps what its region counts, or clears a region that holds nothing (R127, R144). -/
theorem RegionRecord.write_balanced {x : RegionRecord} {r : Region} (h : r.Balanced)
    (hbusy : r.items.isEmpty = true ∨ x.moves r = false) : (x.write r).Balanced := by
  have hempty (hclears : x.clears r = true) : r.items = [] := by
    refine hbusy.elim List.isEmpty_iff.mp fun hmoves => absurd hclears ?_
    simp only [RegionRecord.moves, Bool.or_eq_false_iff] at hmoves
    obtain ⟨⟨hassigned, hbase⟩, hsize⟩ := hmoves
    simp [RegionRecord.clears, hassigned, hbase, hsize]
  unfold RegionRecord.write
  dsimp only
  split
  next hclears =>
    have hitems := hempty hclears
    exact ⟨by simp [hitems], ⟨Nat.zero_lt_succ _, Nat.zero_lt_succ _, Nat.zero_lt_succ _⟩,
      fun _ => ⟨hitems, rfl, rfl, rfl⟩⟩
  next hclears =>
    have hassigned : x.assigned = r.assigned := by
      simp only [RegionRecord.clears, Bool.or_eq_true, not_or] at hclears
      simpa using hclears.1
    exact ⟨h.sum, h.bounded, fun hun => h.unassigned (hassigned.symm.trans hun)⟩

theorem ownLoadRegion_keeps (i : Nat) (ws : List Word) (u : State) : u.Keeps (ownLoadRegion i ws u).state := by
  unfold ownLoadRegion
  generalize RegionRecord.ofWords ws = x
  dsimp only
  split
  next => exact .refl u
  split
  next => exact .refl u
  next hbusy =>
  split
  next => exact .refl u
  have hbusy' : (u.region (regionOf i)).items.isEmpty = true ∨ x.moves (u.region (regionOf i)) = false := by
    simpa [← Bool.not_eq_true, Decidable.or_iff_not_imp_left] using hbusy
  exact .of_store ((u.updRegion_touches _ _).mono rfl) (.of_drops rfl)
    (fun h => h.updRegion fun hr => RegionRecord.write_balanced hr hbusy')
    (fun h => h.updRegion_count (RegionRecord.write_items _ _))

/-! ## Resets (R176, R177, R193) -/

theorem State.settleState_keeps (s : State) (d : DropId) : s.Keeps (s.settleState d) :=
  State.updDrop_keeps (List.Sublist.refl _) ⟨rfl, rfl⟩

theorem State.drop_discardItems_of_empty {s : State} {d : DropId} (hnodup : ∀ i, (s.region i).serials.Nodup)
    (h : (s.drop d).line.copyQueue = []) (items : List Held) : (s.discardItems items).drop d = s.drop d := by
  obtain ⟨-, -, hdrops⟩ := State.discardItems_discards hnodup items
  have hdrop := hdrops d
  rwa [if_neg (by rw [h]; simp)] at hdrop

/-- The lines of a drop and its packet at the intake, before its region is emptied (R101, R108). -/
def State.emptyLines (s : State) (d : DropId) : State :=
  (s.updDrop d (fun x => { x with df := x.df.resetByDrop x.line.enabled, line := x.line.resetByDrop })).freeIntake d

theorem State.emptyLines_keeps (s : State) (d : DropId) : s.Keeps (s.emptyLines d) :=
  .after (State.freeIntake_keeps _ d) (State.updDrop_keeps (List.nil_sublist _) ⟨rfl, rfl⟩)

theorem State.emptyLines_copyQueue (s : State) (d : DropId) : ((s.emptyLines d).drop d).line.copyQueue = [] := by
  unfold State.emptyLines
  rw [State.drop_freeIntake_copyQueue, State.drop_updDrop_self]
  rfl

theorem State.emptyDrop_eq (s : State) (d : DropId) :
    s.emptyDrop d =
      ((s.emptyLines d).discardItems ((s.emptyLines d).region (dropRegion d)).items).leaveSets d := rfl

/-- The drop's queue is empty when it leaves the sets: what its region discards is then in no queue of its own. -/
theorem State.emptyDrop_keeps (s : State) (d : DropId) : s.Keeps (s.emptyDrop d) := by
  rw [State.emptyDrop_eq]
  have hlines := s.emptyLines_keeps d
  have hqueue := s.emptyLines_copyQueue d
  generalize s.emptyLines d = u at hlines hqueue ⊢
  have hdiscards := u.discardItems_keeps (u.region (dropRegion d)).items
  have hstrip : Touches [.store] (u.discardItems (u.region (dropRegion d)).items)
    ((u.discardItems (u.region (dropRegion d)).items).leaveSets d) := State.leaveSets_touches _ d
  refine hlines.trans ⟨⟨fun h => ?_, fun h => ?_, fun h => ?_, fun h => ?_⟩, fun h => ?_, fun h => ?_⟩
  case refine_4 =>
    have hserials := ((u.deliveryLaw_iff_delivers.mp h).stocked).own
    refine (State.leaveSets_keeps ?_).delivery (hdiscards.delivery h)
    rw [State.drop_discardItems_of_empty hserials hqueue]
    exact hqueue
  case refine_1 =>
    obtain ⟨hm, ht, hc⟩ := State.withinPlaces_iff _ |>.mp (hdiscards.places h)
    exact (State.withinPlaces_iff _).mpr ⟨hm, ht, hc⟩
  case refine_2 => exact (hdiscards.routes h).congr rfl
  case refine_3 => exact (hdiscards.conserved h).updAllRegions fun _ hr => hr.strip _
  case refine_5 => exact (hdiscards.guard h).congr rfl fun _ => rfl
  case refine_6 => exact hdiscards.rolled h

theorem State.dropReset_keeps (s : State) (d : DropId) : s.Keeps (s.dropReset d) := by
  have hclose (u : State) : u.Keeps (u.closeAtDropReset d) := (u.closeWithCut_keeps d _ _ _).orSame
  have happly (u : State) : u.Keeps (u.applyAtDropReset d) := by
    unfold State.applyAtDropReset
    dsimp only
    split
    · exact (u.updCadence_keeps d _).trans (State.applyProfile_keeps _ d _)
    · exact u.updCadence_keeps d _
  exact ((s.emptyDrop_keeps d).trans (hclose _)).trans ((happly _).trans (State.settleState_keeps _ d))

theorem State.applyAtTrunkReset_keeps (s : State) (d : DropId) : s.Keeps (s.applyAtTrunkReset d) := by
  refine State.Keeps.trans ?_ (State.settleState_keeps _ d)
  split
  · exact (s.driveDf_keeps d _).trans (State.applyProfile_keeps _ d _)
  · exact (s.applyAnchor_keeps d).orSame

theorem Take.resetByTrunk_not_rolling (t : Take) : t.resetByTrunk.state ≠ .rolling := by
  unfold Take.resetByTrunk
  split
  · exact nofun
  next h => simpa using h

theorem State.drop_resetDrops (s : State) (d : DropId) : s.resetDrops.drop d = (s.drop d).resetByTrunk :=
  ((State.announceGuard_touches _).drop rfl d).trans (s.drop_updAllDrops _ d)

theorem State.drop_resetBlocks (s : State) (d : DropId) : s.resetDrops.resetBlocks.drop d = (s.drop d).resetByTrunk :=
  ((State.resetBlocks_touches _).drop rfl d).trans (s.drop_resetDrops d)

/-- At a trunk reset no take rolls on, every queue is empty and every region holds and counts nothing. -/
theorem State.resetBlocks_keeps (s : State) : s.Keeps s.resetDrops.resetBlocks := by
  have hdrop := s.drop_resetBlocks
  have hregion (i : RegionId) : s.resetDrops.resetBlocks.region i = (s.region i).resetByTrunk :=
    vmap_get Region.resetByTrunk s.store.regions i.val i.isLt
  have hidle (d : DropId) : ¬ (s.resetDrops.resetBlocks.drop d).take.state = .rolling := by
    rw [hdrop d]
    exact Take.resetByTrunk_not_rolling _
  refine ⟨⟨fun _ => ?places, fun h => h.congr rfl, fun _ i => ?conserved, fun h => ?delivery⟩, fun _ => ?guard,
    fun _ d hrolling => absurd hrolling (hidle d)⟩
  case places =>
    refine (State.withinPlaces_iff _).mpr ⟨Nat.zero_le _, ⟨Nat.zero_le _, Nat.zero_le _, Nat.zero_le _, Nat.zero_le _⟩,
      fun d => ?_⟩
    rw [hdrop d]
    exact Nat.zero_le _
  case conserved =>
    rw [hregion i]
    exact ⟨rfl, ⟨Nat.zero_lt_succ _, Nat.zero_lt_succ _, Nat.zero_lt_succ _⟩, fun _ => ⟨rfl, rfl, rfl, rfl⟩⟩
  case delivery =>
    have hstocked := (s.deliveryLaw_iff_delivers.mp h).stocked
    refine (State.deliveryLaw_iff_delivers _).mpr ⟨hstocked.shrink rfl (fun i => ?_) (fun i x hx => ?_) fun i n hn => ?_,
      fun d => ?_⟩
    · rw [hregion i]; exact List.nil_sublist _
    · rw [hregion i] at hx; cases hx
    · rw [hregion i] at hn; cases hn
    · rw [hdrop d]; exact ⟨List.nodup_nil, nofun⟩
  case guard =>
    have hannounced : s.resetDrops.GuardTrue := State.announceGuard_guardTrue _
    exact hannounced.congr rfl fun d => by rw [hdrop d, s.drop_resetDrops d]

theorem State.trunkReset_keeps (s : State) : s.Keeps s.trunkReset :=
  s.resetBlocks_keeps.trans (.foldl State.applyAtTrunkReset_keeps allDrops _)

/-- The six laws of a state. -/
structure State.Lawful (s : State) : Prop where
  places : s.WithinPlaces
  routes : s.RoutesApart
  conserved : s.Conserved
  delivery : s.DeliveryLaw
  guard : s.GuardTrue
  rolled : s.RolledByNow

theorem State.Lawful.keeps {t : State} (h : t.Lawful) (s : State) : s.Keeps t :=
  ⟨⟨fun _ => h.places, fun _ => h.routes, fun _ => h.conserved, fun _ => h.delivery⟩, fun _ => h.guard,
    fun _ => h.rolled⟩

theorem State.drop_inPowerOnReset (a : Int) (d : DropId) : (State.inPowerOnReset a).drop d = Drop.atPowerOn :=
  Vector.getElem_replicate d.isLt

theorem State.route_inPowerOnReset (a : Int) (i : RouteId) : (State.inPowerOnReset a).route i = Route.atPowerOn :=
  Vector.getElem_replicate i.isLt

theorem Store.atPowerOn_region (i : RegionId) :
    Store.atPowerOn.regions[i.val] = Region.unassignedAtPowerOn ∨ Store.atPowerOn.regions[i.val] = Region.passAtPowerOn := by
  revert i
  decide

theorem State.region_inPowerOnReset (a : Int) (i : RegionId) :
    ((State.inPowerOnReset a).region i).items = [] ∧ ((State.inPowerOnReset a).region i).Balanced := by
  unfold State.region
  have hregions : (State.inPowerOnReset a).store.regions = Store.atPowerOn.regions := rfl
  simp only [hregions]
  rcases Store.atPowerOn_region i with h | h
  · rw [h]; exact ⟨rfl, rfl, ⟨by decide, by decide, by decide⟩, fun _ => ⟨rfl, rfl, rfl, rfl⟩⟩
  · rw [h]; exact ⟨rfl, rfl, ⟨by decide, by decide, by decide⟩, fun _ => ⟨rfl, rfl, rfl, rfl⟩⟩

/-- The power-on values meet the laws (R193). -/
theorem State.lawful_inPowerOnReset (a : Int) : (State.inPowerOnReset a).Lawful where
  places := by
    refine (State.withinPlaces_iff _).mpr ⟨Nat.zero_le _, ⟨Nat.zero_le _, Nat.zero_le _, Nat.zero_le _, Nat.zero_le _⟩,
      fun d => ?_⟩
    rw [State.drop_inPowerOnReset]
    exact Nat.zero_le _
  routes := by
    have hinvalid (i : RouteId) : ((State.inPowerOnReset a).route i).valid = false := by
      rw [State.route_inPowerOnReset]
      rfl
    refine ⟨fun i j k station _ _ => ?_, fun i hvalid => absurd ((hinvalid i).symm.trans hvalid) Bool.false_ne_true⟩
    simp [Route.covers, hinvalid j]
  conserved i := (State.region_inPowerOnReset a i).2
  delivery := by
    have hnone (i : RegionId) : ((State.inPowerOnReset a).region i).items = [] := (State.region_inPowerOnReset a i).1
    have hserials (i : RegionId) : ((State.inPowerOnReset a).region i).serials = [] := by
      unfold Region.serials
      rw [hnone i]
      rfl
    refine (State.deliveryLaw_iff_delivers _).mpr ⟨⟨Nat.zero_lt_succ _, ?_, ?_, ?_, ?_, ?_⟩, fun d => ?_⟩
    · intro i; rw [hserials i]; exact List.nodup_nil
    · intro i j _; rw [hserials i]; exact List.disjoint_nil_left _
    · intro i n hn; rw [hserials i] at hn; cases hn
    · intro i; rw [hserials i]; exact List.Pairwise.nil
    · intro i h hh; rw [hnone i] at hh; cases hh
    · rw [State.drop_inPowerOnReset]; exact ⟨List.nodup_nil, nofun⟩
  guard := by
    refine ⟨nofun, fun ⟨d, hd⟩ => ?_⟩
    rw [State.drop_inPowerOnReset] at hd
    cases hd
  rolled d hd := by
    rw [State.drop_inPowerOnReset] at hd
    cases hd

end Sys2Proof.Machine
end

section
/-! SUPPORT. LOAD_ROUTE (R158) and POWER_ON (R193) among the commands that keep the six laws, and every command together. -/

namespace Sys2Proof.Machine

/- One proof after another: a thread for each would take more memory than a check has. -/
set_option Elab.async false

/-! ## Routes (R158) -/

theorem Route.covers_iff (r : Route) (k : RouteKind) (station : Nat) :
    r.covers k station = true ↔ r.valid = true ∧ r.kind = k.code ∧ r.base ≤ station ∧ station < r.base + r.size := by
  simp only [Route.covers, Bool.and_eq_true, beq_iff_eq, decide_eq_true_eq, and_assoc]

theorem mem_allRoutes (i : RouteId) : i ∈ allRoutes := List.mem_finRange i

theorem State.route_setRoute (s : State) (i j : RouteId) (r : Route) :
    (s.setRoute i r).route j = if j = i then r else s.route j := by
  by_cases h : j = i
  · subst h
    simp [State.setRoute, State.route, State.setTrunk]
  · have hval : i.val ≠ j.val := fun heq => h (Fin.ext heq.symm)
    simp [State.setRoute, State.route, State.setTrunk, h, Vector.getElem_set_ne, hval]

/-- A record that passes the judgement of overlap shares no station with another entry of its kind. -/
theorem State.not_covers_of_not_routeOverlaps {s : State} {i j : RouteId} {r : Route} (h : s.routeOverlaps i r = false)
    (hji : j ≠ i) {k : RouteKind} {station : Nat} (hr : r.covers k station = true) :
    (s.route j).covers k station = false := by
  obtain ⟨hvalid, hkind, hlow, hhigh⟩ := (r.covers_iff k station).mp hr
  refine Bool.eq_false_of_not_eq_true fun hj => ?_
  obtain ⟨hvalid', hkind', hlow', hhigh'⟩ := ((s.route j).covers_iff k station).mp hj
  simp only [State.routeOverlaps, hvalid, Bool.true_and, List.any_eq_false] at h
  have hmeet := h j (mem_allRoutes j)
  simp only [runsMeet, hvalid', hkind', hkind, Bool.and_true, Bool.and_eq_true, bne_iff_ne, beq_self_eq_true,
    decide_eq_true_eq] at hmeet
  exact hmeet ⟨hji, by omega, by omega⟩

/-- The kinds, sizes and bases allowed (R158 step 2). -/
theorem Route.inRange_iff (r : Route) :
    r.inRange = true ↔ (r.valid = true → r.kind.toNat < 2 ∧ r.size ∈ routeSizes ∧ r.base % r.size = 0) := by
  cases hvalid : r.valid <;> simp [Route.inRange, hvalid, and_assoc]

/-- A valid record of an allowed size and base covers stations 0 to 63. -/
theorem Route.end_le_of_inRange {r : Route} (hrange : r.inRange = true) (hvalid : r.valid = true) (hbase : r.base < 64) :
    1 ≤ r.size ∧ r.base + r.size ≤ 64 := by
  obtain ⟨-, hsize, haligned⟩ := r.inRange_iff.mp hrange hvalid
  simp only [routeSizes, List.mem_cons, List.not_mem_nil, or_false] at hsize
  rcases hsize with h | h | h | h | h | h | h <;> rw [h] at haligned ⊢ <;> omega

theorem bitsOf_lt (w : Word) (lo width : Nat) : bitsOf w lo width < 2 ^ width := by
  unfold bitsOf
  exact Nat.mod_lt _ (Nat.two_pow_pos width)

theorem State.RoutesApart.setRoute {s : State} (h : s.RoutesApart) {i : RouteId} {r : Route} (hrange : r.inRange = true)
    (hoverlap : s.routeOverlaps i r = false) (hbase : r.base < 64) : (s.setRoute i r).RoutesApart where
  apart j l k station hjl hj := by
    rw [State.route_setRoute] at hj ⊢
    split at hj
    next hji =>
      rw [if_neg fun hli => hjl (hji.trans hli.symm)]
      exact State.not_covers_of_not_routeOverlaps hoverlap (fun hli => hjl (hji.trans hli.symm)) hj
    next hji =>
      split
      next =>
        refine Bool.eq_false_of_not_eq_true fun hl => ?_
        exact absurd ((State.not_covers_of_not_routeOverlaps hoverlap hji hl).symm.trans hj) Bool.false_ne_true
      next => exact h.apart j l k station hjl hj
  stations j hvalid := by
    rw [State.route_setRoute] at hvalid ⊢
    split
    next hji =>
      rw [if_pos hji] at hvalid
      obtain ⟨hkind, -⟩ := r.inRange_iff.mp hrange hvalid
      exact ⟨hkind, Route.end_le_of_inRange hrange hvalid hbase⟩
    next hji =>
      rw [if_neg hji] at hvalid
      exact h.stations j hvalid

theorem ownLoadRoute_keeps (i : Nat) (ws : List Word) (u : State) : u.Keeps (ownLoadRoute i ws u).state := by
  unfold ownLoadRoute
  dsimp only
  split
  next => exact .refl u
  next hrange =>
  split
  next => exact .refl u
  next hoverlap =>
  have hrange' : (Route.ofWords ws).inRange = true := by simpa using hrange
  have hroutes (h : u.RoutesApart) : (u.setRoute (routeOf i) (Route.ofWords ws)).RoutesApart :=
    h.setRoute hrange' (Bool.eq_false_of_not_eq_true hoverlap) (bitsOf_lt _ 8 6)
  have hplaces (h : u.WithinPlaces) : (u.setRoute (routeOf i) (Route.ofWords ws)).WithinPlaces :=
    ⟨h.management, h.repliesA, h.repliesB, h.upFifo, h.downFifo, h.copies⟩
  have hdelivery (h : u.DeliveryLaw) : (u.setRoute (routeOf i) (Route.ofWords ws)).DeliveryLaw :=
    ⟨h.counter, h.distinct, h.fresh, h.owed, h.ordered, h.once, h.queued⟩
  exact ⟨⟨hplaces, hroutes, id, hdelivery⟩, id, id⟩

/-! ## Every command -/

theorem State.powerOn_keeps (s : State) : s.Keeps s.powerOn :=
  State.Keeps.trans ((State.lawful_inPowerOnReset s.trim.value).keeps s)
    (.of_takes (.of_parts rfl rfl (fun _ => List.Sublist.refl _) (.refl _) id) rfl le_rfl fun _ => ⟨rfl, rfl⟩)

theorem State.endPowerOnReset_keeps (s : State) (stn : BitVec 6) : s.Keeps (s.endPowerOnReset stn) :=
  .of_takes (.of_parts rfl rfl (fun _ => List.Sublist.refl _)
    ⟨fun h => ⟨h.repliesA, h.repliesB, h.upFifo, h.downFifo⟩, rfl⟩ id) rfl le_rfl fun _ => ⟨rfl, rfl⟩

/-- Every command but EPOCH keeps the six laws. -/
theorem effectOf_keeps {c : Instr} (hepoch : c ≠ .epoch) (s : State) : s.Keeps (effectOf c s) := by
  cases c with
  | powerOn => exact s.powerOn_keeps
  | powerOnResetEnd stn => exact (s.endPowerOnReset_keeps stn).orSame
  | epoch => exact absurd rfl hepoch
  | houseBoundaryEvent => exact s.houseBoundary_keeps.orSame
  | missingTimeExpiry => exact s.missingTimeExpiry_keeps
  | dropBoundaryEvent d => exact (s.boundaryEvent_keeps d).orSame
  | pulseEnd d => exact s.endPulse_keeps d
  | trunkPacketComplete side words => exact (s.judgePacket_keeps side words).orSame
  | trunkLostSignal side => exact s.trunkLostSignal_keeps side
  | trunkResyncEnd side => exact (s.setReceiver_keeps side _).orSame
  | sideATransmitStart => exact s.startOnA_keeps.orSame
  | sideATransmitComplete => exact s.sideATransmitted_keeps
  | sideBTransmitStart k => exact (s.atDivider_keeps k).thenIf (State.startOnB_keeps _ k)
  | sideBTransmitComplete => exact s.sideBTransmitted_keeps
  | heldReplyEntry => exact s.heldReplyEntry_keeps
  | trimReplyEntry side => exact s.trimReplyEntry_keeps side
  | dropHeaderMalformed d kind len =>
    exact ((s.countMalformed_keeps d).trans (State.updLine_keeps_of_queue rfl)).orSame
  | dropResyncEnd d => exact (State.updLine_keeps_of_queue rfl).orSame
  | dropReceiveStall d => exact ((s.countMalformed_keeps d).trans (State.updLine_keeps_of_queue rfl)).orSame
  | stampPacketComplete d words => exact (s.stampReceived_keeps d words).orSame
  | dropActivity d change => exact s.lineActivity_keeps d change
  | lineArbiterStart d => exact s.lineStart_keeps d
  | dropTransmitComplete d => exact s.dropTransmitted_keeps d
  | dropTransmitStall d => exact (State.updLine_keeps_of_queue (Line.abort_copyQueue true _)).orSame
  | intakeTake => exact s.intakeTake_keeps
  | intakeComplete => exact s.intakeComplete_keeps
  | itemStale => exact s.discardItems_keeps s.staleItems
  | reportEmission => exact s.reportEmission_keeps
  | holdoffExpiry => exact s.openGate_touches.keeps.orSame
  | trimWriteComplete => exact s.trimWritten_keeps
  | loadPart => exact State.takeRequest_keeps (carryLoad_keeps (fun _ _ u => u.writePart_keeps _) .part) s
  | loadProfile => exact State.takeRequest_keeps (carryLoad_keeps ownLoadProfile_keeps .profile) s
  | loadRegion => exact State.takeRequest_keeps (carryLoad_keeps ownLoadRegion_keeps .region) s
  | loadRoute => exact State.takeRequest_keeps (carryLoad_keeps ownLoadRoute_keeps .route) s
  | loadUserBits =>
    exact State.takeRequest_keeps (carryLoad_keeps (fun _ _ u => (u.setLabels_touches _).keeps) .userBits) s
  | unknownRequest =>
    exact State.takeRequest_keeps (k := .unknown) (carry := fun _ u => refuseWith u .unknown) (fun _ u => .refl u) s
  | reopen => exact State.takeRequest_keeps (carryControl_keeps fun u => u.reopenGate_touches.keeps) s
  | trunkReset =>
    exact State.takeRequest_keeps (carryControl_keeps fun u =>
      (u.trunkReset_keeps.trans (State.enterWaitingTrims_keeps _ .a)).trans (State.enterWaitingTrims_keeps _ .b)) s
  | dropReset => exact State.takeRequest_keeps (carryDropControl_keeps fun d u => u.dropReset_keeps d) s
  | anchor =>
    exact State.takeRequest_keeps (carryDropControl_keeps fun d u => (u.updCadence_keeps d _).orSame) s
  | forceJam => exact State.takeRequest_keeps (carryControl_keeps fun _ => State.setTracker_keeps) s
  | hold => exact State.takeRequest_keeps (carryControl_keeps State.holdTracker_keeps) s
  | resume => exact State.takeRequest_keeps (carryControl_keeps State.resumeTracker_keeps) s
  | storeTrim => exact State.takeRequest_keeps (fun r u => (carryStoreTrim_touches r u).keeps) s
  | trunkStartBit side k => exact s.trunkStartBit_keeps side k
  | wordClockEdge d k => exact (s.atDivider_keeps k).trans (State.driveDf_keeps _ d k)
  | _ => exact s.takeRead_keeps _ _

theorem effectOf_keepsTables (c : Instr) (s : State) : s.KeepsTables (effectOf c s) := by
  by_cases hepoch : c = .epoch
  · subst hepoch; exact s.epoch_keepsTables
  · exact (effectOf_keeps hepoch s).toKeepsTables

theorem effectOf_guardTrue (c : Instr) {s : State} (h : s.GuardTrue) : (effectOf c s).GuardTrue := by
  by_cases hepoch : c = .epoch
  · subst hepoch; exact State.epoch_guardTrue h
  · exact (effectOf_keeps hepoch s).guard h

/-- Short of the end of house time an epoch does not set it back. -/
theorem State.epoch_time_le {s : State} (hb : s.TimeBounded) (hend : s.clock.time + 1099511627776 < 2 ^ 64) :
    s.clock.time ≤ s.epoch.clock.time := by
  obtain ⟨hlow, hhigh⟩ := hb.correction_within
  have hexact := Clock.advance_exact hb.fraction hlow hhigh (by omega)
  have hfraction := s.clock.advance_fraction_lt
  have hfraction' := hb.fraction
  rw [State.epoch_clock]
  omega

theorem effectOf_rolledByNow (c : Instr) {s : State} (h : s.RolledByNow) (hb : s.TimeBounded)
    (hend : s.clock.time + 1099511627776 < 2 ^ 64) : (effectOf c s).RolledByNow := by
  by_cases hepoch : c = .epoch
  · subst hepoch
    intro d hrolling
    have hdrop : (effectOf .epoch s).drop d = (s.drop d).countStalls := s.drop_epoch d
    rw [hdrop] at hrolling ⊢
    exact (h d hrolling).trans (State.epoch_time_le hb hend)
  · exact (effectOf_keeps hepoch s).rolled h

end Sys2Proof.Machine

open Sys2Proof Sys2Proof.Machine

/-- Settles O14: the take table announces the guard wherever a take opens or closes, and nothing else reaches either. -/
theorem guardFlagKept : Obligations.GuardFlagKept :=
  fun _ _ h => keptByStep (fun _ _ => id) (fun c _ => effectOf_guardTrue c) h

/-- Settles O35: each operation of the store moves one item between held, retired and discarded, or counts it twice. -/
theorem conservationKept : Obligations.ConservationKept :=
  fun _ _ h => keptByStep (fun _ _ => id) (fun c s => (effectOf_keepsTables c s).conserved) h

/-- Settles O37: a draw makes every held item older before the newcomer joins, and an item leaves a drop's queue before its
set loses the drop. -/
theorem deliveryLawKept : Obligations.DeliveryLawKept := by
  refine fun _ _ h => keptByStep (fun s _ h => ?_) (fun c s => (effectOf_keepsTables c s).delivery) h
  exact ⟨h.counter, h.distinct, h.fresh, h.owed, h.ordered, h.once, h.queued⟩

/-- Settles O46: what enters a queue or a FIFO is judged by its room first. -/
theorem withinPlacesKept : Obligations.WithinPlacesKept := by
  refine fun _ _ h => keptByStep (fun s _ h => ?_) (fun c s => (effectOf_keepsTables c s).places) h
  exact ⟨h.management, h.repliesA, h.repliesB, h.upFifo, h.downFifo, h.copies⟩

/-- Settles O47: a record is written to the route table only past the judgements of range and overlap. -/
theorem routesApartKept : Obligations.RoutesApartKept := by
  refine fun _ _ h => keptByStep (fun s _ h => ?_) (fun c s => (effectOf_keepsTables c s).routes) h
  exact ⟨h.apart, h.stations⟩
end

section
/-! SUPPORT. R1, R25, R40: the bounds of the clock's and the tracker's numbers. Most commands leave all of these numbers as
they are (`State.SameNumbers`); the tracker's own commands are judged by the state in which they leave it, since c is bounded
by C_track outside SLEW and is plus or minus L_slew in it. -/

namespace Sys2Proof.Machine

/- One proof after another: a thread for each would take more memory than a check has. -/
set_option Elab.async false

/-! ## The numbers, and what leaves them alone -/

/-- What the bounds speak of. -/
def State.timeNumbers (s : State) :=
  (s.inReset, s.part, s.clock.time, s.clock.fraction, s.clock.stepCount, s.clock.correction, s.tracker.state,
    s.tracker.drift, s.tracker.hold)

def State.SameNumbers (s t : State) : Prop := t.timeNumbers = s.timeNumbers

theorem State.SameNumbers.refl (s : State) : s.SameNumbers s := rfl

theorem State.SameNumbers.trans {s t u : State} (h : s.SameNumbers t) (h' : t.SameNumbers u) : s.SameNumbers u :=
  Eq.trans h' h

/-- The last operation of several, where the ones before it are left to prove. -/
theorem State.SameNumbers.after {s t u : State} (h' : t.SameNumbers u) (h : s.SameNumbers t) : s.SameNumbers u :=
  h.trans h'

theorem State.SameNumbers.thenIf {c : Prop} [Decidable c] {s t u : State} (h : s.SameNumbers t) (h' : t.SameNumbers u) :
    s.SameNumbers (if c then u else t) := by
  split
  · exact h.trans h'
  · exact h

theorem State.SameNumbers.orSame {c : Prop} [Decidable c] {s t : State} (h : s.SameNumbers t) :
    s.SameNumbers (if c then t else s) :=
  (State.SameNumbers.refl s).thenIf h

theorem State.SameNumbers.foldl {α : Type} {f : State → α → State} (h : ∀ (s : State) x, s.SameNumbers (f s x))
    (l : List α) (s : State) : s.SameNumbers (l.foldl f s) := by
  induction l generalizing s with
  | nil => exact .refl s
  | cons x l ih => exact (h s x).trans (ih (f s x))

theorem Touches.sameNumbers {bs : List Block} {s t : State} (h : Touches bs s t)
    (hreset : bs.contains .inReset = false := by rfl) (hclock : bs.contains .clock = false := by rfl)
    (htracker : bs.contains .tracker = false := by rfl) (hpart : bs.contains .part = false := by rfl) :
    s.SameNumbers t := by
  unfold State.SameNumbers State.timeNumbers
  rw [h.inReset hreset, h.clock hclock, h.tracker htracker, h.part hpart]

/-- The bounds of a part that runs. -/
structure State.RunsBounded (s : State) : Prop where
  running : s.inReset = false
  bounded : s.TimeBounded

theorem State.SameNumbers.timeBounded {s t : State} (h : s.SameNumbers t) (hb : s.TimeBounded) : t.TimeBounded := by
  simp only [State.SameNumbers, State.timeNumbers, Prod.mk.injEq] at h
  obtain ⟨hreset, hpart, htime, hfraction, hcount, hcorrection, hstate, hdrift, hhold⟩ := h
  refine ⟨?_, ?_, ?_, ?_, ?_, ?_, ?_, ?_, ?_, ?_⟩
  · rw [htime]; exact hb.time
  · rw [hfraction]; exact hb.fraction
  · rw [hcount]; exact hb.stepCount
  · rw [hpart]; exact hb.slewPpm
  · rw [hpart]; exact hb.windows
  · rw [hdrift]; exact hb.drift
  · rw [hstate, hcorrection]; exact hb.correction
  · rw [hstate, hcorrection, hpart]; exact hb.slewing
  · rw [hhold, hstate]; exact hb.held
  · rw [hreset, hstate]; exact hb.resetting

theorem State.SameNumbers.runsBounded {s t : State} (h : s.SameNumbers t) (hb : s.RunsBounded) : t.RunsBounded where
  running := by
    simp only [State.SameNumbers, State.timeNumbers, Prod.mk.injEq] at h
    exact h.1.trans hb.running
  bounded := h.timeBounded hb.bounded

/-! ## Takes and resets: of the tracker, the guard flag alone -/

theorem State.closeWithCut_sameNumbers (s : State) (d : DropId) (reason : CloseReason) (p : Profile) (anchor : Int) :
    s.SameNumbers (s.closeWithCut d reason p anchor) := by
  have hclosed : s.SameNumbers (s.closeTake d reason) := rfl
  exact hclosed.trans (State.createItem_touches _ d _).sameNumbers

theorem State.goDormant_sameNumbers (s : State) (d : DropId) (p : Profile) (anchor : Int) :
    s.SameNumbers (s.goDormant d p anchor) :=
  (s.updLine_touches d _).sameNumbers.thenIf
    ((State.closeWithCut_sameNumbers _ d _ p anchor).trans (State.latch_touches _ _ _).sameNumbers)

theorem State.quietCount_sameNumbers (s : State) (d : DropId) (p : Profile) (anchor : Int) :
    s.SameNumbers (s.quietCount d p anchor) := by
  unfold State.quietCount
  refine State.SameNumbers.orSame ?_
  split
  · exact (s.updLine_touches d _).sameNumbers
  split
  · exact .refl s
  · exact (s.updLine_touches d _).sameNumbers.thenIf (State.goDormant_sameNumbers _ d p anchor)

theorem State.finishBoundary_sameNumbers (s : State) (d : DropId) (n t boundary : Nat) (wasWaiting : Bool) (p : Profile)
    (anchor : Int) : s.SameNumbers (s.finishBoundary d n t boundary wasWaiting p anchor) := by
  unfold State.finishBoundary
  exact ((s.placeFrame_touches d _).sameNumbers.trans (State.updDf_touches _ d _).sameNumbers).trans
    ((State.quietCount_sameNumbers _ d p anchor).trans (State.updCadence_touches _ d _).sameNumbers)

theorem State.applyProfile_sameNumbers (s : State) (d : DropId) (p : Profile) : s.SameNumbers (s.applyProfile d p) := by
  have hadopted : s.SameNumbers (s.adoptProfile d p) :=
    ((s.updProfile_touches d _).sameNumbers.trans (State.updCadence_touches _ d _).sameNumbers).thenIf
      (State.closeWithCut_sameNumbers _ d _ _ _)
  unfold State.applyProfile
  refine hadopted.trans ?_
  dsimp only
  split
  · exact (State.settleEnabled_touches _ d _ p).sameNumbers
  · exact (State.settleDisabled_touches _ d).sameNumbers

theorem State.boundaryEvent_sameNumbers (s : State) (d : DropId) : s.SameNumbers (s.boundaryEvent d) := by
  unfold State.boundaryEvent
  dsimp only
  split
  next p _ =>
    exact (((s.driveDf_touches d 0).sameNumbers.trans (State.followAgain_touches _ d).sameNumbers).trans
      (State.applyProfile_sameNumbers _ d p)).thenIf (State.finishBoundary_sameNumbers _ d _ _ _ _ _ _)
  next =>
    refine (s.followAgain_touches d).sameNumbers.trans ?_
    split
    · exact (State.applyAnchor_touches _ d).sameNumbers.trans (State.finishBoundary_sameNumbers _ d _ _ _ _ _ _)
    · exact (State.updCadence_touches _ d _).sameNumbers.trans (State.finishBoundary_sameNumbers _ d _ _ _ _ _ _)

theorem State.announceGuard_sameNumbers (s : State) : s.SameNumbers s.announceGuard := rfl

theorem State.completeRoll_sameNumbers (s : State) (d : DropId) (c : Converted) : s.SameNumbers (s.completeRoll d c) := by
  unfold State.completeRoll
  dsimp only
  -- from the end: the ROLL's own item, the take that opens, and a superseded take's CUT
  refine .after (State.updTake_touches _ d _).sameNumbers (.after (State.createItem_touches _ d _).sameNumbers ?_)
  refine .after (State.announceGuard_sameNumbers _) (.after (State.updTake_touches _ d _).sameNumbers ?_)
  exact State.SameNumbers.orSame
    ((s.updTake_touches d _).sameNumbers.trans (State.createItem_touches _ d _).sameNumbers)

theorem State.completeKind_sameNumbers (s : State) (d : DropId) (c : Converted) : s.SameNumbers (s.completeKind d c) := by
  unfold State.completeKind
  split
  · exact s.completeRoll_sameNumbers d c
  · unfold State.completeCut
    split
    · have hclosed : s.SameNumbers (s.closeTake d .cut) := rfl
      exact hclosed.trans (State.createItem_touches _ d _).sameNumbers
    · exact (s.createItem_touches d _).sameNumbers
  · exact (s.completeClap_touches d c).sameNumbers
  · exact (s.createItem_touches d _).sameNumbers
  · exact (s.setLabels_touches _).sameNumbers.trans (State.createItem_touches _ d _).sameNumbers

theorem State.intakeComplete_sameNumbers (s : State) : s.SameNumbers s.intakeComplete := by
  unfold State.intakeComplete
  split
  · have hfreed : s.SameNumbers (s.setIntake { s.intake with inProcess := none }) := rfl
    refine hfreed.trans ?_
    unfold State.completeStamp
    split
    · exact (State.countMalformed_touches _ _).sameNumbers
    · split
      · exact State.completeKind_sameNumbers _ _ _
      · exact (State.updCounters_touches _ _ _).sameNumbers
  · exact .refl s

theorem State.dropReset_sameNumbers (s : State) (d : DropId) : s.SameNumbers (s.dropReset d) := by
  have hclose (u : State) : u.SameNumbers (u.closeAtDropReset d) := (u.closeWithCut_sameNumbers d _ _ _).orSame
  have happly (u : State) : u.SameNumbers (u.applyAtDropReset d) := by
    unfold State.applyAtDropReset
    dsimp only
    split
    · exact (u.updCadence_touches d _).sameNumbers.trans (State.applyProfile_sameNumbers _ d _)
    · exact (u.updCadence_touches d _).sameNumbers
  exact ((s.emptyDrop_touches d).sameNumbers.trans (hclose _)).trans
    ((happly _).trans (State.settleState_touches _ d).sameNumbers)

theorem State.applyAtTrunkReset_sameNumbers (s : State) (d : DropId) : s.SameNumbers (s.applyAtTrunkReset d) := by
  refine State.SameNumbers.trans ?_ (State.settleState_touches _ d).sameNumbers
  split
  · exact (s.driveDf_touches d _).sameNumbers.trans (State.applyProfile_sameNumbers _ d _)
  · exact (s.applyAnchor_touches d).sameNumbers.orSame

/-! ## Values within their limits -/

theorem houseTimeOf_lt (x : Nat) : houseTimeOf x < Config.houseTimeEnd := by
  unfold houseTimeOf
  split
  next h => exact h
  next => exact (Config.houseTimePastEnd x).isLt

theorem jammedTime_lt (h : Nat) (e : Int) : jammedTime h e < Config.houseTimeEnd := by
  unfold jammedTime
  split
  · decide
  · exact houseTimeOf_lt _

/-- A value within ±C_track (R25). -/
def WithinTrack (i : Int) : Prop := -Config.cTrack ≤ i ∧ i ≤ Config.cTrack

theorem withinTrack_limitAbs (i : Int) : WithinTrack (limitAbs Config.cTrack i) := by
  unfold WithinTrack limitAbs Config.cTrack
  omega

theorem limited_bounds {low high : Nat} (h : low ≤ high) (n : Nat) :
    low ≤ limited low high n ∧ limited low high n ≤ high := by
  unfold limited
  omega

/-! ## A tracker that takes arrivals -/

/-- The bounds that do not depend on the tracker state, of a part that runs without HOLD. -/
structure State.Tunable (s : State) : Prop where
  running : s.inReset = false
  hold : s.tracker.hold = false
  time : s.clock.time < Config.houseTimeEnd
  fraction : s.clock.fraction < 16777216
  stepCount : s.clock.stepCount < 65536
  slewPpm : 1 ≤ s.part.slewPpm ∧ s.part.slewPpm ≤ 1000
  windows : s.part.lockWindow ≤ s.part.stepThreshold
  drift : WithinTrack s.tracker.drift

theorem State.RunsBounded.tunable {s : State} (h : s.RunsBounded) (hhold : s.tracker.hold = false) : s.Tunable :=
  ⟨h.running, hhold, h.bounded.time, h.bounded.fraction, h.bounded.stepCount, h.bounded.slewPpm, h.bounded.windows,
    h.bounded.drift⟩

/-- Out of SLEW, c within C_track is all that is asked. -/
theorem State.Tunable.runsBounded {s : State} (h : s.Tunable) (hstate : s.tracker.state ≠ .slew)
    (hc : WithinTrack s.clock.correction) : s.RunsBounded :=
  ⟨h.running, h.time, h.fraction, h.stepCount, h.slewPpm, h.windows, h.drift, fun _ => hc, fun hs => absurd hs hstate,
    fun hhold => absurd (h.hold.symm.trans hhold) Bool.false_ne_true,
    fun hreset => absurd (h.running.symm.trans hreset) Bool.false_ne_true⟩

theorem State.Tunable.runsBounded_of_slew {s : State} (h : s.Tunable) (hstate : s.tracker.state = .slew)
    (hc : s.clock.correction = s.part.slewStep ∨ s.clock.correction = -s.part.slewStep) : s.RunsBounded :=
  ⟨h.running, h.time, h.fraction, h.stepCount, h.slewPpm, h.windows, h.drift, fun hs => absurd hstate hs, fun _ => hc,
    fun hhold => absurd (h.hold.symm.trans hhold) Bool.false_ne_true,
    fun hreset => absurd (h.running.symm.trans hreset) Bool.false_ne_true⟩

/-- The tracker writes its counts, flags or state. -/
theorem State.Tunable.setTracker {s : State} (h : s.Tunable) {x : Tracker}
    (hhold : x.hold = s.tracker.hold := by rfl) (hdrift : x.drift = s.tracker.drift := by rfl) :
    (s.setTracker x).Tunable :=
  ⟨h.running, hhold.trans h.hold, h.time, h.fraction, h.stepCount, h.slewPpm, h.windows, hdrift.symm ▸ h.drift⟩

theorem State.Tunable.loopUpdate {s : State} (h : s.Tunable) (e : Int) : (s.loopUpdate e).Tunable :=
  ⟨h.running, h.hold, h.time, h.fraction, h.stepCount, h.slewPpm, h.windows, withinTrack_limitAbs _⟩

theorem State.loopUpdate_correction (s : State) (e : Int) : WithinTrack (s.loopUpdate e).clock.correction :=
  withinTrack_limitAbs _

theorem State.Tunable.loopToTrack {s : State} (h : s.Tunable) (e : Int) : (s.loopToTrack e).RunsBounded := by
  have htrack : ((s.loopUpdate e).enterState .track).RunsBounded :=
    State.Tunable.runsBounded (State.Tunable.setTracker (h.loopUpdate e)) nofun (s.loopUpdate_correction e)
  exact (State.latchLockLost_touches _ _).sameNumbers.runsBounded htrack

theorem State.Tunable.slewBy {s : State} (h : s.Tunable) (hstate : s.tracker.state = .slew) (e : Int) :
    (s.slewBy e).RunsBounded := by
  have htuned : (s.slewBy e).Tunable :=
    ⟨h.running, h.hold, h.time, h.fraction, h.stepCount, h.slewPpm, h.windows, h.drift⟩
  refine htuned.runsBounded_of_slew hstate ?_
  unfold State.slewBy State.setCorrection
  dsimp only [State.setClock]
  split
  · exact .inl rfl
  · exact .inr rfl

theorem State.Tunable.jam {s : State} (h : s.Tunable) (hc : WithinTrack s.clock.correction) (e : Int) :
    (s.jam e).RunsBounded := by
  rw [State.jam_eq]
  have htuned : (s.jamUnlatched e).Tunable :=
    ⟨h.running, h.hold, jammedTime_lt _ _, Nat.zero_lt_succ _, Nat.mod_lt _ (by decide), h.slewPpm, h.windows, h.drift⟩
  have hjammed : (s.jamUnlatched e).RunsBounded := htuned.runsBounded nofun hc
  exact (State.latchLockLost_touches _ _).sameNumbers.runsBounded
    ((State.latch_touches _ _ _).sameNumbers.runsBounded hjammed)

theorem State.Tunable.stepDecision {s : State} (h : s.Tunable) (hc : WithinTrack s.clock.correction) (e : Int) :
    (s.stepDecision e).RunsBounded := by
  unfold State.stepDecision
  split
  · exact h.jam hc e
  · have hslew : ((s.enterState .slew).slewBy e).RunsBounded :=
      State.Tunable.slewBy (State.Tunable.setTracker h) rfl e
    exact (State.latchLockLost_touches _ _).sameNumbers.runsBounded
      ((State.latch_touches _ _ _).sameNumbers.runsBounded hslew)

/-- An outlier in TRACK or LOCKED is counted, and the count may bring the step decision (R28, R29). -/
theorem State.Tunable.outlier {s : State} (h : s.Tunable) (hstate : s.tracker.state ≠ .slew)
    (hc : WithinTrack s.clock.correction) {x : Tracker} (e : Int) {c : Prop} [Decidable c]
    (hx : x.state = s.tracker.state := by rfl) (hhold : x.hold = s.tracker.hold := by rfl)
    (hdrift : x.drift = s.tracker.drift := by rfl) :
    (if c then (s.setTracker x).stepDecision e else s.setTracker x).RunsBounded := by
  have hcounted : (s.setTracker x).Tunable := h.setTracker hhold hdrift
  split
  · exact hcounted.stepDecision hc e
  · exact hcounted.runsBounded (hx ▸ hstate) hc

theorem State.RunsBounded.arriveTrack {s : State} (h : s.RunsBounded) (hhold : s.tracker.hold = false)
    (hstate : s.tracker.state = .track) (e : Int) : (s.arriveTrack e).RunsBounded := by
  have htuned := h.tunable hhold
  have hslew : s.tracker.state ≠ .slew := hstate ▸ nofun
  have hc := h.bounded.correction hslew
  unfold State.arriveTrack
  dsimp only
  split
  · have hcounted (x : Tracker) (hx : x.hold = (s.loopUpdate e).tracker.hold)
        (hd : x.drift = (s.loopUpdate e).tracker.drift) (hs : x.state ≠ .slew) :
        ((s.loopUpdate e).setTracker x).RunsBounded :=
      ((htuned.loopUpdate e).setTracker hx hd).runsBounded hs (s.loopUpdate_correction e)
    split
    · refine (State.latch_touches _ _ _).sameNumbers.runsBounded ?_
      exact hcounted { (s.loopUpdate e).tracker with
        state := .locked, lockCount := satInc 255 (s.loopUpdate e).tracker.lockCount, outlierCount := 0 } rfl rfl nofun
    · exact hcounted _ rfl rfl hslew
  split
  · exact htuned.loopToTrack e
  · exact htuned.outlier hslew hc e

theorem State.RunsBounded.arriveLocked {s : State} (h : s.RunsBounded) (hhold : s.tracker.hold = false)
    (hstate : s.tracker.state = .locked) (e : Int) : (s.arriveLocked e).RunsBounded := by
  have htuned := h.tunable hhold
  have hslew : s.tracker.state ≠ .slew := hstate ▸ nofun
  unfold State.arriveLocked
  dsimp only
  split
  · exact State.Tunable.runsBounded (State.Tunable.setTracker (htuned.loopUpdate e)) hslew (s.loopUpdate_correction e)
  split
  · exact htuned.loopToTrack e
  · exact htuned.outlier hslew (h.bounded.correction hslew) e

theorem State.RunsBounded.jamFrom {s : State} (h : s.RunsBounded) (hhold : s.tracker.hold = false) (e : Int) :
    (s.jamFrom e).RunsBounded := by
  have htuned := h.tunable hhold
  unfold State.jamFrom
  split
  · have hended : (s.setCorrection s.tracker.drift).Tunable :=
      ⟨htuned.running, htuned.hold, htuned.time, htuned.fraction, htuned.stepCount, htuned.slewPpm, htuned.windows,
        htuned.drift⟩
    exact hended.jam htuned.drift e
  next hslew => exact htuned.jam (h.bounded.correction hslew) e

theorem State.RunsBounded.arriveSlew {s : State} (h : s.RunsBounded) (hhold : s.tracker.hold = false)
    (hstate : s.tracker.state = .slew) (e : Int) : (s.arriveSlew e).RunsBounded := by
  have htuned := h.tunable hhold
  unfold State.arriveSlew
  split
  · exact htuned.loopToTrack e
  split
  · exact htuned.slewBy hstate e
  split
  · exact htuned.slewBy hstate e
  · exact h.jamFrom hhold e

theorem State.RunsBounded.arriveByState {s : State} (h : s.RunsBounded) (hhold : s.tracker.hold = false) (e : Int) :
    (s.arriveByState e).RunsBounded := by
  have htuned := h.tunable hhold
  unfold State.arriveByState
  split
  · exact h.jamFrom hhold e
  split
  next hstate => exact htuned.jam (h.bounded.correction (hstate ▸ nofun)) e
  next hstate => exact h.arriveTrack hhold hstate e
  next hstate => exact h.arriveLocked hhold hstate e
  next hstate => exact h.arriveSlew hhold hstate e
  next hstate =>
    unfold State.arriveFreewheel
    split
    · exact htuned.loopToTrack e
    · exact htuned.stepDecision (h.bounded.correction (hstate ▸ nofun)) e

theorem State.RunsBounded.discipline {s : State} (h : s.RunsBounded) (hhold : s.tracker.hold = false) (e : Int) :
    (s.discipline e).RunsBounded := by
  have herror : s.SameNumbers (s.setTracker { s.tracker with lastError := e }) := rfl
  have hrestarted (u : State) : u.SameNumbers
      (u.setTracker { u.tracker with missingTime := 0, expiryDue := false, firstArrival := false }) := rfl
  exact (hrestarted _).runsBounded ((herror.runsBounded h).arriveByState hhold e)

/-! ## The tracker's other commands -/

/-- FREEWHEEL is entered with c at A, whether or not HOLD is then set (R30, R40). -/
theorem State.RunsBounded.enterFreewheel {s : State} (h : s.RunsBounded) : s.enterFreewheel.RunsBounded :=
  ⟨h.running, h.bounded.time, h.bounded.fraction, h.bounded.stepCount, h.bounded.slewPpm, h.bounded.windows, h.bounded.drift,
    fun _ => h.bounded.drift, nofun, fun _ => rfl, fun hreset => absurd (h.running.symm.trans hreset) Bool.false_ne_true⟩

theorem State.RunsBounded.missingTimeExpiry {s : State} (h : s.RunsBounded) : s.missingTimeExpiry.RunsBounded := by
  unfold State.missingTimeExpiry
  split
  · exact (State.latchLockLost_touches _ _).sameNumbers.runsBounded
      ((State.latch_touches _ _ _).sameNumbers.runsBounded h.enterFreewheel)
  · exact h

theorem State.missingTimeExpiry_hold (s : State) : s.missingTimeExpiry.tracker.hold = s.tracker.hold := by
  unfold State.missingTimeExpiry
  split
  · rw [(State.latchLockLost_touches _ _).tracker rfl]
    rfl
  · rfl

theorem State.handQuality_sameNumbers (s : State) (q : Quality) : s.SameNumbers (s.handQuality q) := by
  unfold State.handQuality
  dsimp only
  split
  · rfl
  split <;> rfl

theorem State.handQuality_hold (s : State) (q : Quality) : (s.handQuality q).tracker.hold = s.tracker.hold := by
  have h := s.handQuality_sameNumbers q
  simp only [State.SameNumbers, State.timeNumbers, Prod.mk.injEq] at h
  exact h.2.2.2.2.2.2.2.2

theorem State.handOverTime_sameNumbers (s : State) (words : List Word) : s.SameNumbers (s.handOverTime words) := by
  have hhop (u : State) (x : Nat) : u.SameNumbers (u.setClock { u.clock with receivedHop := x, anyArrival := true }) := rfl
  exact ((s.handRate_touches _).sameNumbers.trans (hhop _ _)).trans (State.handQuality_sameNumbers _ _)

theorem State.handOverTime_hold (s : State) (words : List Word) : (s.handOverTime words).tracker.hold = s.tracker.hold :=
  (State.handQuality_hold _ _).trans (congrArg Tracker.hold ((s.handRate_touches _).tracker rfl))

theorem State.RunsBounded.timeArrival {s : State} (h : s.RunsBounded) (words : List Word) (captured : Nat) :
    (s.timeArrival words captured).RunsBounded := by
  unfold State.timeArrival
  dsimp only
  split
  · exact (s.handOverTime_sameNumbers words).runsBounded h
  next hheld =>
    have hhold : s.tracker.hold = false := by
      simp only [Bool.or_eq_true, not_or] at hheld
      exact Bool.eq_false_of_not_eq_true hheld.2
    refine ((State.handOverTime_sameNumbers _ words).runsBounded h.missingTimeExpiry).discipline ?_ _
    rw [State.handOverTime_hold, State.missingTimeExpiry_hold, hhold]

theorem State.RunsBounded.classify {s : State} (h : s.RunsBounded) (side : Side) (words : List Word) (captured : Nat) :
    (s.classify side words captured).RunsBounded := by
  unfold State.classify
  split
  · unfold State.timePacketOnA
    split
    · exact (s.updSideCounters_touches _ _).sameNumbers.runsBounded h
    · exact h.timeArrival words captured
  · exact (s.mgmtArrival_touches _ _).sameNumbers.runsBounded h
  · exact (s.enterDown_touches _).sameNumbers.runsBounded h
  · exact (s.misdirected_touches _).sameNumbers.runsBounded h
  · exact (s.foreignArrival_touches _ _ _).sameNumbers.runsBounded h
  · exact (s.foreignArrival_touches _ _ _).sameNumbers.runsBounded h
  · exact (s.enterUp_touches _).sameNumbers.runsBounded h
  · exact (s.enterUp_touches _).sameNumbers.runsBounded h
  · exact (s.enterUp_touches _).sameNumbers.runsBounded h
  · exact (s.mgmtArrival_touches _ _).sameNumbers.runsBounded h
  · exact (s.misdirected_touches _).sameNumbers.runsBounded h

theorem State.RunsBounded.trunkPacketComplete {s : State} (h : s.RunsBounded) (side : Side) (words : List Word) :
    (s.trunkPacketComplete side words).RunsBounded := by
  have hcounted (c : Receiver) (f : SideCounters → SideCounters) :
      s.SameNumbers ((s.setReceiver side c).updSideCounters side f) :=
    (s.setReceiver_touches side c).sameNumbers.trans (State.updSideCounters_touches _ side f).sameNumbers
  unfold State.trunkPacketComplete State.judgePacket
  split
  · split
    · exact ((hcounted _ _).trans (State.latch_touches _ _ _).sameNumbers).runsBounded h
    split
    · exact ((hcounted _ _).trans (State.latch_touches _ _ _).sameNumbers).runsBounded h
    · exact ((hcounted _ _).runsBounded h).classify side words _
  · exact h

theorem State.RunsBounded.epoch {s : State} (h : s.RunsBounded) : s.epoch.RunsBounded := by
  have hadvanced : (s.setClock s.clock.advance).RunsBounded :=
    ⟨h.running, houseTimeOf_lt _, s.clock.advance_fraction_lt, h.bounded.stepCount, h.bounded.slewPpm, h.bounded.windows,
      h.bounded.drift, h.bounded.correction, h.bounded.slewing, h.bounded.held, h.bounded.resetting⟩
  have hcounted (u : State) : u.SameNumbers u.countMissingTime := by
    unfold State.countMissingTime
    split <;> rfl
  exact ((hcounted _).trans (State.updAllDrops_touches _ _).sameNumbers).runsBounded hadvanced

theorem State.RunsBounded.holdTracker {s : State} (h : s.RunsBounded) : s.holdTracker.RunsBounded := by
  unfold State.holdTracker
  split
  · exact h
  · have hheld : (s.enterFreewheel.setTracker { s.enterFreewheel.tracker with
        hold := true, heldFromAcquire := s.tracker.state = .acquire }).RunsBounded :=
      ⟨h.running, h.bounded.time, h.bounded.fraction, h.bounded.stepCount, h.bounded.slewPpm, h.bounded.windows,
        h.bounded.drift, fun _ => h.bounded.drift, nofun, fun _ => rfl,
        fun hreset => absurd (h.running.symm.trans hreset) Bool.false_ne_true⟩
    exact (State.latchLockLost_touches _ _).sameNumbers.runsBounded hheld

theorem State.RunsBounded.resumeTracker {s : State} (h : s.RunsBounded) : s.resumeTracker.RunsBounded := by
  unfold State.resumeTracker
  split
  next hhold =>
    have hfreewheel := h.bounded.held hhold
    have htuned : (s.setTracker { s.tracker with
        hold := false, missingTime := 0, expiryDue := false, firstArrival := true, heldFromAcquire := false,
        state := if s.tracker.heldFromAcquire then .acquire else s.tracker.state }).Tunable :=
      ⟨h.running, rfl, h.bounded.time, h.bounded.fraction, h.bounded.stepCount, h.bounded.slewPpm, h.bounded.windows,
        h.bounded.drift⟩
    refine htuned.runsBounded ?_ (h.bounded.correction (hfreewheel ▸ nofun))
    dsimp only [State.setTracker]
    rw [hfreewheel]
    split <;> exact nofun
  next => exact h

/-- In SLEW a new slew limit corrects c; outside it c is not the limit's (R23). -/
theorem State.RunsBounded.writePart {s : State} (h : s.RunsBounded) {p : PartRecord}
    (hppm : 1 ≤ p.slewPpm ∧ p.slewPpm ≤ 1000) (hwindows : p.lockWindow ≤ p.stepThreshold) :
    (s.writePart p).RunsBounded := by
  unfold State.writePart
  dsimp only
  split
  next hslew =>
    refine ⟨h.running, h.bounded.time, h.bounded.fraction, h.bounded.stepCount, hppm, hwindows, h.bounded.drift,
      fun hs => absurd hslew hs, fun _ => ?_, h.bounded.held, h.bounded.resetting⟩
    dsimp only [State.setCorrection, State.setClock, State.setPart]
    split
    · exact .inr rfl
    · exact .inl rfl
  next hslew =>
    exact ⟨h.running, h.bounded.time, h.bounded.fraction, h.bounded.stepCount, hppm, hwindows, h.bounded.drift,
      h.bounded.correction, fun hs => absurd hs hslew, h.bounded.held, h.bounded.resetting⟩

theorem PartRecord.ofWords_bounds (ws : List Word) :
    (1 ≤ (PartRecord.ofWords ws).slewPpm ∧ (PartRecord.ofWords ws).slewPpm ≤ 1000)
      ∧ (PartRecord.ofWords ws).lockWindow ≤ (PartRecord.ofWords ws).stepThreshold :=
  ⟨limited_bounds (by decide) _, Nat.le_max_left _ _⟩

theorem State.resetDrops_sameNumbers (s : State) : s.SameNumbers s.resetDrops :=
  (s.updAllDrops_touches Drop.resetByTrunk).sameNumbers.trans (State.announceGuard_sameNumbers _)

/-- A trunk reset leaves ACQUIRE with c at A (R43). -/
theorem State.RunsBounded.resetBlocks {s : State} (h : s.RunsBounded) : s.resetBlocks.RunsBounded :=
  ⟨h.running, h.bounded.time, h.bounded.fraction, h.bounded.stepCount, h.bounded.slewPpm, h.bounded.windows,
    h.bounded.drift, fun _ => h.bounded.drift, nofun, nofun, fun _ => rfl⟩

theorem State.RunsBounded.trunkReset {s : State} (h : s.RunsBounded) : s.trunkReset.RunsBounded := by
  have hblocks : s.resetDrops.resetBlocks.RunsBounded := (s.resetDrops_sameNumbers.runsBounded h).resetBlocks
  exact (State.SameNumbers.foldl State.applyAtTrunkReset_sameNumbers allDrops _).runsBounded hblocks

theorem State.RunsBounded.trunkResetControl {s : State} (h : s.RunsBounded) : s.trunkResetControl.RunsBounded :=
  ((State.enterWaitingTrims_touches _ .a).sameNumbers.trans (State.enterWaitingTrims_touches _ .b).sameNumbers).runsBounded
    h.trunkReset

theorem State.RunsBounded.takeRequest {k : RequestKind} {carry : Request → State → Carried}
    (hcarry : ∀ (r : Request) (u : State), u.RunsBounded → (carry r u).state.RunsBounded) {s : State} (h : s.RunsBounded) :
    (s.takeRequest k carry).RunsBounded := by
  rcases s.takeRequest_cases k carry with hnone | ⟨r, rest, htaken⟩
  · rw [hnone]; exact h
  · rw [htaken]
    exact (Carried.answer_touches _ r).sameNumbers.runsBounded
      (hcarry r _ ((s.setMgmt_touches _).sameNumbers.runsBounded h))

theorem State.RunsBounded.takeControl {act : State → State} (hact : ∀ u : State, u.RunsBounded → (act u).RunsBounded)
    (c : Control) {s : State} (h : s.RunsBounded) : (s.takeRequest (.control c) (carryControl act)).RunsBounded :=
  h.takeRequest fun _ u => hact u

theorem State.RunsBounded.takeLoadPart {s : State} (h : s.RunsBounded) :
    (s.takeRequest (.load .part) (carryLoad .part ownLoadPart)).RunsBounded := by
  refine h.takeRequest fun r u hu => ?_
  unfold carryLoad
  split
  · obtain ⟨hppm, hwindows⟩ := PartRecord.ofWords_bounds r.record
    exact hu.writePart hppm hwindows
  · exact hu

theorem carryDropControl_sameNumbers {act : DropId → State → State} (hact : ∀ d (u : State), u.SameNumbers (act d u))
    (r : Request) (u : State) : u.SameNumbers (carryDropControl act r u).state := by
  unfold carryDropControl
  split
  · exact hact _ u
  · exact .refl u

/-! ## Every command -/

theorem State.timeBounded_inPowerOnReset : (State.inPowerOnReset 0).TimeBounded where
  time := by decide
  fraction := by decide
  stepCount := by decide
  slewPpm := by decide
  windows := by decide
  drift := by decide
  correction _ := by decide
  slewing := nofun
  held := nofun
  resetting _ := rfl

theorem State.powerOn_timeBounded (s : State) : s.powerOn.TimeBounded := by
  have hsame : (State.inPowerOnReset 0).SameNumbers s.powerOn := rfl
  exact hsame.timeBounded State.timeBounded_inPowerOnReset

theorem State.TimeBounded.endPowerOnReset {s : State} (h : s.TimeBounded) (hreset : s.inReset = true) (stn : BitVec 6) :
    (s.endPowerOnReset stn).TimeBounded where
  time := h.time
  fraction := h.fraction
  stepCount := h.stepCount
  slewPpm := h.slewPpm
  windows := h.windows
  drift := withinTrack_limitAbs _
  correction _ := withinTrack_limitAbs _
  slewing hslew := nomatch (h.resetting hreset).symm.trans hslew
  held := h.held
  resetting := nofun

/-- The commands that reach a number, and that every other command leaves the numbers alone. -/
theorem State.RunsBounded.effectOf {c : Instr} {s : State} (h : s.RunsBounded) (hc : Instr.ofPowerOn c = false) :
    (effectOf c s).RunsBounded := by
  cases c with
  | powerOn => cases hc
  | powerOnResetEnd stn => cases hc
  | epoch => exact h.epoch
  | missingTimeExpiry => exact h.missingTimeExpiry
  | trunkPacketComplete side words => exact h.trunkPacketComplete side words
  | dropBoundaryEvent d => exact ((s.boundaryEvent_sameNumbers d).orSame).runsBounded h
  | intakeComplete => exact s.intakeComplete_sameNumbers.runsBounded h
  | loadPart => exact h.takeLoadPart
  | trunkReset => exact h.takeControl (fun _ => State.RunsBounded.trunkResetControl) .trunkReset
  | dropReset =>
    exact h.takeRequest fun r u => (carryDropControl_sameNumbers (fun d v => v.dropReset_sameNumbers d) r u).runsBounded
  | forceJam =>
    have hjam (u : State) : u.SameNumbers u.requestJam := rfl
    exact h.takeControl (fun u => (hjam u).runsBounded) .forceJam
  | hold => exact h.takeControl (fun _ => State.RunsBounded.holdTracker) .hold
  | resume => exact h.takeControl (fun _ => State.RunsBounded.resumeTracker) .resume
  | sideBTransmitStart k =>
    have hinstant : s.SameNumbers (s.atDivider k) := rfl
    exact (hinstant.thenIf (State.startOnB_touches _ k).sameNumbers).runsBounded h
  | trunkStartBit side k =>
    have hinstant : s.SameNumbers (s.atDivider k) := rfl
    exact (hinstant.thenIf (State.updPort_touches _ side _).sameNumbers).runsBounded h
  | wordClockEdge d k =>
    have hinstant : s.SameNumbers (s.atDivider k) := rfl
    exact (hinstant.trans (State.driveDf_touches _ d k).sameNumbers).runsBounded h
  | _ => exact (effectOf_touches _ s).sameNumbers.runsBounded h

theorem exec_timeBounded {c : Instr} {s t : State} (h : s.TimeBounded) (hexec : exec c s = .next t) : t.TimeBounded := by
  cases hpower : Instr.ofPowerOn c with
  | true =>
    cases c with
    | powerOn => cases hexec; exact s.powerOn_timeBounded
    | powerOnResetEnd stn =>
      cases hexec
      split
      next hreset => exact h.endPowerOnReset hreset stn
      next => exact h
    | _ => cases hpower
  | false =>
    rw [exec_eq_whenRunning hpower] at hexec
    cases hexec
    split
    next => exact h
    next hrun => exact (State.RunsBounded.effectOf ⟨Bool.eq_false_of_not_eq_true hrun, h⟩ hpower).bounded

end Sys2Proof.Machine

open Sys2Proof Sys2Proof.Machine

/-- Settles O13: the loop limits what it writes, every entry to SLEW writes L_slew and every end of it A, and what else
reaches the numbers is limited where it is loaded. -/
theorem timeBoundsKept : Obligations.TimeBoundsKept := by
  intro s t h hstep
  unfold step at hstep
  split at hstep
  next => cases hstep; exact h
  next c rest _ =>
    have htaken : s.SameNumbers { s with pending := rest } := rfl
    exact exec_timeBounded (htaken.timeBounded h) hstep
end

section
/-! SUPPORT. R113 to R122, R130: items made and takes that open and close. What creating an item does is said once
(`State.createItem_made`); that it does not look at takes is said once for each operation of the store, because a ROLL's take
records the serial that its item is given. -/

namespace Sys2Proof.Machine

/- One proof after another: a thread for each would take more memory than a check has. -/
set_option Elab.async false

/-! ## Creating an item (R130, R131) -/

theorem State.editMask_congr {s t : State} (h : ∀ d, (t.drop d).profile = (s.drop d).profile) : t.editMask = s.editMask := by
  unfold State.editMask
  simp only [h]

theorem State.lookup_congr {s t : State} (htrunk : t.trunk = s.trunk) (h : ∀ d, (t.drop d).profile = (s.drop d).profile)
    (k : RouteKind) (station : Nat) : t.lookup k station = s.lookup k station := by
  unfold State.lookup
  rw [htrunk, State.editMask_congr h]

theorem State.drawSerial_serial (s : State) : s.drawSerial.store.serial = (s.store.serial + 1) % 4294967296 := by
  have hitems (u : State) (items : List Held) : (u.discardItems items).store.serial = u.store.serial := by
    unfold State.discardItems
    induction items generalizing u with
    | nil => rfl
    | cons h items ih => rw [List.foldl_cons, ih, State.discardItem_serial]
  rw [State.drawSerial_eq, State.discardStale, hitems]
  rfl

/-- An item joins a region with room, in a state whose counter stands at its serial. -/
theorem State.admitItem_joins {s : State} {i : RegionId} (source : Option DropId) {h : Held}
    (hroom : (s.region i).RoomFor 1) (howed : h.up = true ∨ h.drops ≠ 0#8) :
    s.admitItem i source h = { s with
      drops := (s.admitItem i source h).drops,
      store := { s.store with regions := (s.admitItem i source h).store.regions } }
    ∧ (∀ j, j ≠ i → (s.admitItem i source h).region j = s.region j)
    ∧ (s.admitItem i source h).region i = (s.region i).join h
    ∧ ∀ e, (s.admitItem i source h).FilledIfNamed h.drops e (s.drop e) := by
  rw [State.admitItem_of_room source hroom howed]
  have htouches := (s.updRegion i (Region.join h)).fillNamed_touches h.drops
  refine ⟨?_, fun j hj => ?_, ?_, fun e => State.fillNamed_filled _ h.drops e⟩
  · rw [htouches.eq_of_drops]
    rfl
  · exact (htouches.region rfl j).trans (s.region_updRegion_ne _ hj)
  · exact (htouches.region rfl i).trans (s.region_updRegion_self i _)

theorem Touches.eq_of_drops_store_reports {s t : State} (h : Touches [.drops, .store, .reports] s t) :
    t = { s with drops := t.drops, store := t.store, reports := t.reports } := by
  cases s
  cases t
  simp only [State.mk.injEq, true_and]
  exact ⟨h.inReset rfl, h.clock rfl, h.house rfl, h.trim rfl, h.tracker rfl, h.part rfl, h.intake rfl, h.labels rfl,
    h.trunk rfl, h.mgmt rfl, h.pending rfl⟩

/-- An item meets its region full: one item in its place, or none, and both counters rise (R132, R133). -/
theorem State.meetFull_region (s : State) (i : RegionId) (source : Option DropId) (h : Held) :
    (s.meetFull i source h).store = { s.store with regions := (s.meetFull i source h).store.regions }
    ∧ (s.meetFull i source h).region i = { s.region i with
        items := ((s.meetFull i source h).region i).items, accepted := wrapAdd32 (s.region i).accepted 1,
        discarded := wrapAdd32 (s.region i).discarded 1 }
    ∧ ((s.meetFull i source h).region i).items.length = (s.region i).items.length := by
  by_cases hdisplaces : (s.region i).policy = .replaceOldest ∧ ∃ x ∈ (s.region i).items, ¬ s.InFlight x.serial
  · obtain ⟨hpolicy, hfree⟩ := hdisplaces
    rw [State.meetFull_of_displaced source h hpolicy hfree]
    generalize hu : s.updRegion i (Region.displace s.inFlight h) = u
    have hstore : ((u.fillNamed h.drops).latch .regionFull source).store = u.store := (u.fillNamed_touches _).store rfl
    have hregion : ((u.fillNamed h.drops).latch .regionFull source).region i = (s.region i).displace s.inFlight h := by
      rw [State.region_eq_of_store hstore, ← hu, State.region_updRegion_self]
    rw [hstore, hregion]
    refine ⟨by rw [← hu]; rfl, rfl, ?_⟩
    obtain ⟨x, hx, hflight⟩ := hfree
    have hlength := List.length_eraseP_add_one (p := fun x => !s.inFlight x.serial) hx
      (by simpa [← State.inFlight_iff] using hflight)
    simp only [Region.displace, List.length_append, List.length_singleton]
    exact hlength
  · have hrefused : (s.region i).policy = .refuse ∨ ∀ x ∈ (s.region i).items, s.InFlight x.serial := by
      cases hpolicy : (s.region i).policy with
      | refuse => exact .inl rfl
      | replaceOldest => exact .inr (by simpa [hpolicy] using hdisplaces)
    rw [State.meetFull_of_refused source h hrefused]
    have hregion : ((s.updRegion i Region.refuseItem).latch .regionFull source).region i = (s.region i).refuseItem :=
      s.region_updRegion_self i _
    rw [hregion]
    exact ⟨rfl, rfl, rfl⟩

theorem State.TakesItem.drawSerial {s : State} {i : RegionId} {up : Bool} {m : DropMask} (h : s.TakesItem i up m) :
    s.drawSerial = s.counted := State.drawSerial_of_noneStale h.fresh

/-- What is handed to a region under the next serial (R130). -/
theorem State.drawSerial_itemHanded (s : State) (i : RegionId) (source : Option DropId) (item : ItemBody) (up : Bool)
    (m : DropMask) :
    ItemHanded i source item up m s (s.drawSerial.admitItem i source
      { serial := (s.store.serial + 1) % 4294967296, item := item, up := up, drops := m }) := by
  refine ⟨rfl, fun htakes => ?joins, fun hassigned hfresh => ?unassigned, fun hassigned hfull howed hfresh => ?full⟩
  case joins =>
    rw [htakes.drawSerial]
    have hroom : (s.counted.region i).RoomFor 1 := htakes.room
    obtain ⟨hframe, hothers, hjoined, hfilled⟩ := State.admitItem_joins (s := s.counted) source
      (h := { serial := (s.store.serial + 1) % 4294967296, item := item, up := up, drops := m }) hroom htakes.owed
    exact ⟨hframe, hothers, hjoined, hfilled⟩
  case unassigned =>
    rw [State.drawSerial_of_noneStale hfresh]
    have hassigned' : (s.counted.region i).assigned = false := hassigned
    rw [State.admitItem_of_unassigned source _ hassigned']
    cases source with
    | none => rfl
    | some d => rfl
  case full =>
    rw [State.drawSerial_of_noneStale hfresh]
    have hassigned' : (s.counted.region i).assigned = true := hassigned
    have hfull' : (s.counted.region i).size ≤ (s.counted.region i).items.length := hfull
    generalize hx : ({ serial := (s.store.serial + 1) % 4294967296, item := item, up := up, drops := m } : Held) = x
    have howed' : x.up = true ∨ x.drops ≠ 0#8 := by rw [← hx]; exact howed
    rw [State.admitItem_of_full source hassigned' howed' hfull']
    obtain ⟨hstore, hregion, hlength⟩ := s.counted.meetFull_region i source x
    obtain ⟨u, hu, hreports, hothers⟩ := s.counted.meetFull_latches i source x
    have htouches := (s.counted.meetFull_touches i source x).mono (cs := [.drops, .store, .reports]) rfl
    refine ⟨?latched, ?frame, fun j hj => ?_, hregion, hlength⟩
    case latched =>
      rw [hu]
      exact (u.latch_spec _ _).of_reports hreports
    case frame =>
      have hframe := htouches.eq_of_drops_store_reports
      rw [hstore] at hframe
      exact hframe
    rw [hu]
    exact hothers j hj

/-- What a drop makes is handed to its region with the set of the route table as it stands (R131). -/
theorem State.createItem_made (s : State) (d : DropId) (item : ItemBody) : ItemMade d item s (s.createItem d item) := by
  have hlookup (k : RouteKind) (station : Nat) : s.drawSerial.lookup k station = s.lookup k station :=
    State.lookup_congr (s.drawSerial_touches.trunk rfl) (fun e => (s.drawSerial_copiesChange e).profile) k station
  have hstation : s.drawSerial.sourceStation = s.sourceStation := by
    unfold State.sourceStation State.addressed
    rw [s.drawSerial_touches.trunk rfl]
  have hcreated : s.createItem d item = s.drawSerial.admitItem (dropRegion d) (some d)
      { serial := (s.store.serial + 1) % 4294967296, item := item,
        up := (s.lookup item.routeKind s.sourceStation).1, drops := (s.lookup item.routeKind s.sourceStation).2 } := by
    rw [← s.drawSerial_serial, ← hlookup, ← hstation]
    rfl
  unfold ItemMade
  rw [hcreated]
  exact s.drawSerial_itemHanded _ _ _ _ _

theorem State.createPassCopy_handed (s : State) (item : ItemBody) (m : DropMask) :
    ItemHanded passRegion none item false m s (s.createPassCopy item m) := by
  have hcreated : s.createPassCopy item m = s.drawSerial.admitItem passRegion none
      { serial := (s.store.serial + 1) % 4294967296, item := item, up := false, drops := m } := by
    rw [← s.drawSerial_serial]
    rfl
  rw [hcreated]
  exact s.drawSerial_itemHanded _ _ _ _ _

/-! ## Takes that close (R116, R118) -/

theorem State.rollingCount_ne_zero_iff (s : State) : (s.rollingCount != 0) = true ↔ ∃ d, (s.drop d).take.state = .rolling :=
  s.announceGuard_guardTrue

theorem State.announceGuard_eq (s : State) {b : Bool} (h : b = true ↔ ∃ d, (s.drop d).take.state = .rolling) :
    s.announceGuard = { s with tracker := { s.tracker with guardFlag := b } } := by
  have hflag : (s.rollingCount != 0) = b := Bool.eq_iff_iff.mpr (s.rollingCount_ne_zero_iff.trans h.symm)
  unfold State.announceGuard
  rw [hflag]
  rfl

theorem State.closeTake_closes (s : State) (d : DropId) (reason : CloseReason) :
    TakeCloses d reason s (s.closeTake d reason) := by
  have hdrop (e : DropId) := s.drop_updTake d e (fun t => { t with state := .idle, lastClose := reason })
  refine ⟨?_, fun e he => (hdrop e).trans (if_neg he), (hdrop d).trans (if_pos rfl)⟩
  refine (State.announceGuard_eq _ ?_).trans rfl
  rw [decide_eq_true_eq]
  refine exists_congr fun e => ?_
  rw [hdrop e]
  by_cases he : e = d
  · simp [he]
  · simp [he]

theorem State.closeWithCut_closes (s : State) (d : DropId) (reason : CloseReason) (p : Profile) (anchor : Int) :
    ClosesWithCut d reason p anchor s (s.closeWithCut d reason p anchor) :=
  ⟨s.closeTake d reason, s.closeTake_closes d reason, State.createItem_made _ d _⟩

/-! ## What the store does not look at -/

/-- Updates of two drops, or two updates of one that do not meet, can be made in either order. -/
theorem State.updDrop_comm (s : State) (d e : DropId) {f g : Drop → Drop} (h : ∀ x, f (g x) = g (f x)) :
    (s.updDrop d f).updDrop e g = (s.updDrop e g).updDrop d f := by
  by_cases he : e = d
  · subst he
    rw [State.updDrop_updDrop, State.updDrop_updDrop]
    simp only [h]
  · have hdrops : ((s.updDrop d f).updDrop e g).drops = ((s.updDrop e g).updDrop d f).drops := by
      refine Vector.ext fun i hi => ?_
      have hget (u : State) : u.drops[i] = u.drop ⟨i, hi⟩ := rfl
      simp only [hget, State.drop_updDrop]
      by_cases hd : (⟨i, hi⟩ : DropId) = d
      · have hie : (⟨i, hi⟩ : DropId) ≠ e := fun hie => he (hie.symm.trans hd)
        rw [if_pos hd, if_neg hie, if_neg hie, if_pos hd]
      · rw [if_neg hd, if_neg hd]
    exact congrArg (fun v => ({ s with drops := v } : State)) hdrops

/-- An update of a drop that leaves its lines and its profile, and does not depend on its lines. -/
structure OffLine (f : Drop → Drop) : Prop where
  line : ∀ x, (f x).line = x.line
  profile : ∀ x, (f x).profile = x.profile
  updLine : ∀ x (g : Line → Line), f { x with line := g x.line } = { f x with line := g x.line }

theorem offLine_take (f : Take → Take) : OffLine (fun x => { x with take := f x.take }) :=
  ⟨fun _ => rfl, fun _ => rfl, fun _ _ => rfl⟩

theorem offLine_cadence (f : Cadence → Cadence) : OffLine (fun x => { x with cadence := f x.cadence }) :=
  ⟨fun _ => rfl, fun _ => rfl, fun _ _ => rfl⟩

theorem OffLine.drop_line {f : Drop → Drop} (hf : OffLine f) (s : State) (d e : DropId) :
    ((s.updDrop d f).drop e).line = (s.drop e).line := by
  rw [State.drop_updDrop]
  split
  · exact hf.line _
  · rfl

theorem OffLine.drop_profile {f : Drop → Drop} (hf : OffLine f) (s : State) (d e : DropId) :
    ((s.updDrop d f).drop e).profile = (s.drop e).profile := by
  rw [State.drop_updDrop]
  split
  · exact hf.profile _
  · rfl

theorem OffLine.updLine_updDrop {f : Drop → Drop} (hf : OffLine f) (s : State) (d e : DropId) (g : Line → Line) :
    (s.updDrop d f).updLine e g = (s.updLine e g).updDrop d f := by
  refine s.updDrop_comm d e fun x => ?_
  rw [hf.updLine, hf.line]

/-- An operation of the store gives the same whatever a drop holds off its lines and profile. -/
def LineBound (op : State → State) : Prop :=
  ∀ (s : State) d f, OffLine f → op (s.updDrop d f) = (op s).updDrop d f

theorem LineBound.comp {op op' : State → State} (h : LineBound op) (h' : LineBound op') : LineBound (fun s => op' (op s)) :=
  fun s d f hf => by
    dsimp only
    rw [h s d f hf, h' _ d f hf]

theorem LineBound.foldl {α : Type} {op : State → α → State} (h : ∀ x, LineBound (fun s => op s x)) (l : List α) :
    LineBound (fun s => l.foldl op s) := by
  intro s d f hf
  dsimp only
  induction l generalizing s with
  | nil => rfl
  | cons x l ih =>
    have hx : op (s.updDrop d f) x = (op s x).updDrop d f := h x s d f hf
    rw [List.foldl_cons, List.foldl_cons, hx, ih]

theorem lineBound_fillOne (e : DropId) : LineBound (fun s => s.fillOne e) := by
  intro s d f hf
  have htakes : (s.updDrop d f).takesCopies e = s.takesCopies e := by
    simp only [State.takesCopies, hf.drop_line, hf.drop_profile]
  have hnext : (s.updDrop d f).nextCopy e = s.nextCopy e := by
    simp only [State.nextCopy, hf.drop_line]
    rfl
  dsimp only
  unfold State.fillOne
  rw [htakes, hnext]
  cases s.takesCopies e with
  | false => rfl
  | true =>
    cases s.nextCopy e with
    | none => rfl
    | some h => exact hf.updLine_updDrop s d e (fun l => { l with copyQueue := l.copyQueue ++ [h.serial] })

theorem lineBound_fill (e : DropId) : LineBound (fun s => s.fill e) :=
  (((lineBound_fillOne e).comp (lineBound_fillOne e)).comp (lineBound_fillOne e)).comp (lineBound_fillOne e)

theorem lineBound_fillNamed (m : DropMask) : LineBound (fun s => s.fillNamed m) := by
  refine LineBound.foldl (op := fun s d => if names m d then s.fill d else s) (fun e s d f hf => ?_) allDrops
  dsimp only
  split
  · exact lineBound_fill e s d f hf
  · rfl

theorem lineBound_unqueue (n : Nat) (e : DropId) : LineBound (fun s => s.unqueue n e) := by
  intro s d f hf
  dsimp only
  unfold State.unqueue
  rw [hf.drop_line]
  split
  · rw [hf.updLine_updDrop]
    exact lineBound_fill e _ d f hf
  · rfl

theorem lineBound_discardItem (n : Nat) : LineBound (fun s => s.discardItem n) := by
  intro s d f hf
  have hfold := LineBound.foldl (fun e => lineBound_unqueue n e) allDrops (s.updAllRegions (Region.discard n)) d f hf
  have hregions : (s.updDrop d f).updAllRegions (Region.discard n) = (s.updAllRegions (Region.discard n)).updDrop d f := rfl
  dsimp only at hfold ⊢
  unfold State.discardItem
  rw [hregions, hfold]

theorem lineBound_discardItems (items : List Held) : LineBound (fun s => s.discardItems items) := by
  intro s d f hf
  have hfold := LineBound.foldl (fun h : Held => lineBound_discardItem h.serial) items s d f hf
  dsimp only at hfold ⊢
  unfold State.discardItems
  exact hfold

theorem lineBound_drawSerial : LineBound State.drawSerial := by
  intro s d f hf
  have hstale : (s.updDrop d f).counted.staleItems = s.counted.staleItems := rfl
  have hcounted : (s.updDrop d f).counted = s.counted.updDrop d f := rfl
  rw [State.drawSerial_eq, State.drawSerial_eq, State.discardStale, State.discardStale, hstale, hcounted]
  exact lineBound_discardItems _ _ d f hf

theorem OffLine.inFlight_updDrop {f : Drop → Drop} (hf : OffLine f) (s : State) (d : DropId) :
    (s.updDrop d f).inFlight = s.inFlight := by
  funext n
  unfold State.inFlight
  simp only [hf.drop_line]
  rfl

theorem lineBound_admitItem (i : RegionId) (source : Option DropId) (h : Held) :
    LineBound (fun s => s.admitItem i source h) := by
  have hregion (g : Region → Region) : LineBound (fun s => s.updRegion i g) := fun _ _ _ _ => rfl
  have hfull : LineBound (fun s => s.meetFull i source h) := by
    intro s d f hf
    have hsame : (s.updDrop d f).region i = s.region i := rfl
    dsimp only
    unfold State.meetFull
    rw [hsame, hf.inFlight_updDrop]
    dsimp only
    split
    · exact congrArg (State.latch · .regionFull source) (lineBound_fillNamed h.drops (s.updRegion i _) d f hf)
    · rfl
  intro s d f hf
  have hsame : (s.updDrop d f).region i = s.region i := rfl
  dsimp only
  unfold State.admitItem
  rw [hsame]
  split
  · cases source with
    | none => rfl
    | some e =>
      exact hf.updLine_updDrop s d e (fun l => { l with counters := { l.counters with
        unassignedDiscards := satInc16 l.counters.unassignedDiscards } })
  split
  · rfl
  split
  · exact lineBound_fillNamed h.drops (s.updRegion i _) d f hf
  · exact hfull s d f hf

theorem OffLine.createItem_updDrop {f : Drop → Drop} (hf : OffLine f) (s : State) (d e : DropId) (item : ItemBody) :
    (s.updDrop e f).createItem d item = (s.createItem d item).updDrop e f := by
  have hdraw := lineBound_drawSerial s e f hf
  unfold State.createItem
  rw [hdraw]
  generalize s.drawSerial = u
  have hlookup (k : RouteKind) (station : Nat) : (u.updDrop e f).lookup k station = u.lookup k station :=
    State.lookup_congr (s := u) (t := u.updDrop e f) rfl (fun x => hf.drop_profile u e x) k station
  have hstation : (u.updDrop e f).sourceStation = u.sourceStation := rfl
  have hserial : (u.updDrop e f).store = u.store := rfl
  dsimp only
  rw [hlookup, hstation, hserial]
  exact lineBound_admitItem (dropRegion d) (some d) _ u e f hf

theorem State.createItem_updTake (s : State) (d e : DropId) (f : Take → Take) (item : ItemBody) :
    (s.updTake e f).createItem d item = (s.createItem d item).updTake e f :=
  (offLine_take f).createItem_updDrop s d e item

/-- An item handed to the store reaches of it only the regions. -/
theorem State.admitItem_store (s : State) (i : RegionId) (d : DropId) (h : Held) :
    (s.admitItem i (some d) h).store = { s.store with regions := (s.admitItem i (some d) h).store.regions } := by
  have hnamed (u : State) (m : DropMask) : (u.fillNamed m).store = u.store := (u.fillNamed_touches m).store rfl
  unfold State.admitItem
  split
  · rfl
  split
  · rfl
  split
  · rw [hnamed]; rfl
  · exact (s.meetFull_region i (some d) h).1

theorem State.discardItem_storeRegions (s : State) (n : Nat) :
    (s.discardItem n).store = { s.store with regions := (s.discardItem n).store.regions } := by
  have h := (State.foldl_unqueue_touches n allDrops (s.updAllRegions (Region.discard n))).store rfl
  unfold State.discardItem
  rw [h]
  rfl

theorem State.discardItems_store (s : State) (items : List Held) :
    (s.discardItems items).store = { s.store with regions := (s.discardItems items).store.regions } := by
  unfold State.discardItems
  induction items generalizing s with
  | nil => rfl
  | cons h items ih =>
    rw [List.foldl_cons, ih, s.discardItem_storeRegions h.serial]

theorem State.createItem_store (s : State) (d : DropId) (item : ItemBody) :
    (s.createItem d item).store = { s.store with
      serial := (s.store.serial + 1) % 4294967296, regions := (s.createItem d item).store.regions } := by
  have hdraw : s.drawSerial.store = { s.store with
      serial := (s.store.serial + 1) % 4294967296, regions := s.drawSerial.store.regions } := by
    rw [State.drawSerial_eq, State.discardStale, State.discardItems_store]
    rfl
  have hadmit (u : State) (h : Held) : (u.admitItem (dropRegion d) (some d) h).store =
      { u.store with regions := (u.admitItem (dropRegion d) (some d) h).store.regions } := u.admitItem_store _ d h
  unfold State.createItem
  dsimp only
  generalize s.drawSerial.lookup _ _ = result
  rw [hadmit, hdraw]

end Sys2Proof.Machine
end

section
/-! SUPPORT. What a completion at the intake does by its kind (R109 to R122), each item it makes being handed to the store as
`ItemMade` says; and what a foreign item does on side B (R140, R160). -/

namespace Sys2Proof.Machine

/- One proof after another: a thread for each would take more memory than a check has. -/
set_option Elab.async false

/-! ## Completions -/

/-- An accepted stamp completes by its kind, at the intake that has just been freed. -/
theorem State.Accepted.exec {s : State} {d : DropId} {r : Received} {x : DeviceStamp} (h : s.Accepted d r x) :
    exec .intakeComplete s = .next (s.intakeFreed.completeKind d (s.convert d x r)) := by
  rw [exec_intakeComplete h.running h.inProcess]
  have hread : s.intakeFreed.readStamp d r.words = some x := h.wellFormed
  have haccepts : (s.intakeFreed.drop d).profile.accepts x.kind = true := h.accepted
  simp only [State.completeStamp, hread, haccepts, if_true]
  rfl

theorem State.rolling_eq_true_iff (s : State) (d : DropId) : s.rolling d = true ↔ (s.drop d).take.state = .rolling :=
  beq_iff_eq

theorem State.rollingNumber_eq (s : State) (d : DropId) :
    s.rollingNumber d = if (s.drop d).take.state = .rolling then some (s.drop d).take.number else none :=
  if_congr (s.rolling_eq_true_iff d) rfl rfl

theorem Take.idle_iff_not_rolling (t : Take) : t.state = .idle ↔ ¬ t.state = .rolling := by
  cases t.state <;> simp

theorem distance_eq_natAbs (x y : Nat) : distance x y = ((x : Int) - y).natAbs := by
  unfold distance
  omega

/-! ## The conversion of a stamp -/

theorem State.plausible_eq (s : State) (d : DropId) (r : Received) (frame time : Nat) :
    s.plausible d r frame time =
      if r.stepCount ≠ s.clock.stepCount then { time := time, unverified := false, preStep := true }
      else if (s.drop d).profile.stampWindow <
          ((frame : Int) - (forward (s.drop d).profile (s.drop d).cadence.anchor r.time
            / (s.drop d).profile.rate.period : Nat)).natAbs then
        { time := r.time, unverified := true, preStep := false }
      else { time := time, unverified := false, preStep := false } := by
  rw [← distance_eq_natAbs]
  rfl

theorem State.deviceFrame_frame (s : State) (d : DropId) (n : Nat) : s.deviceFrame d (.frame n) = (n, false) := rfl

theorem State.deviceFrame_label (s : State) (d : DropId) (l : Label) :
    s.deviceFrame d (.label l) =
      (resolve (dayLength (s.drop d).profile.rate.base (s.drop d).profile.dropFrame)
        (l.position (s.drop d).profile.rate.base (s.drop d).profile.dropFrame).1
        (forward (s.drop d).profile (s.drop d).cadence.anchor s.clock.time / (s.drop d).profile.rate.period),
      (l.position (s.drop d).profile.rate.base (s.drop d).profile.dropFrame).2) := rfl

/-! ## A ROLL -/

theorem State.updDrop_congr (s : State) (d : DropId) {f g : Drop → Drop} (h : f (s.drop d) = g (s.drop d)) :
    s.updDrop d f = s.updDrop d g := by
  unfold State.updDrop
  rw [h]

/-- A state in which the guard flag is set. -/
def State.guarded (s : State) : State := { s with tracker := { s.tracker with guardFlag := true } }

/-- The take of a ROLL opens: the drop's number and roll house time, and the serial that its item draws. -/
def State.opening (s : State) (d : DropId) (device : Option Nat) (rollTime : Nat) : State :=
  s.guarded.updDrop d (fun x =>
    { x with take := x.take.opened device rollTime ((s.store.serial + 1) % 4294967296) })

theorem State.announceGuard_of_opened (s : State) (d : DropId) (device : Option Nat) (rollTime : Nat) :
    (s.updTake d (fun t => t.opened device rollTime t.rollSerial)).announceGuard =
      (s.updTake d (fun t => t.opened device rollTime t.rollSerial)).guarded := by
  refine State.announceGuard_eq _ (iff_of_true rfl ⟨d, ?_⟩)
  rw [State.drop_updTake, if_pos rfl]
  rfl

/-- The ROLL's item is made as if the take it opens already knew its serial. -/
theorem State.opening_createItem (s : State) (d : DropId) (device : Option Nat) (rollTime : Nat) (item : ItemBody) :
    (((s.updTake d (fun t => t.opened device rollTime t.rollSerial)).announceGuard.createItem d item).updTake d
      (fun t => { t with rollSerial := (s.store.serial + 1) % 4294967296 })) =
    (s.opening d device rollTime).createItem d item := by
  rw [s.announceGuard_of_opened, ← State.createItem_updTake]
  congr 1
  exact State.updDrop_updDrop s.guarded d (fun x => { x with take := x.take.opened device rollTime x.take.rollSerial })
    (fun x => { x with take := { x.take with rollSerial := (s.store.serial + 1) % 4294967296 } })

/-- The take of a ROLL opens, and the ROLL's item is made (R115). -/
def State.rollOpens (s : State) (d : DropId) (c : Converted) : State :=
  (s.opening d c.stamp.takeNumber (min c.judged.time s.clock.time)).createItem d
    (c.item d c.flags (some ((s.drop d).take.nextNumber c.stamp.takeNumber)))

/-- The take that a ROLL supersedes is closed and its CUT made (R118). -/
def State.superseded (s : State) (d : DropId) (c : Converted) : State :=
  (s.updTake d (fun t => { t with lastClose := .superseded })).createItem d
    (synthesizedCut d (s.drop d).take c.judged.time c.frame c.stamp.subframe c.flags)

theorem State.completeRoll_eq (s : State) (d : DropId) (c : Converted) :
    s.completeRoll d c =
      if (s.drop d).take.state = .rolling then (s.superseded d c).rollOpens d c else s.rollOpens d c := by
  have hopens (u : State) : (fun t : Take => { t with rollSerial :=
      ((u.updTake d (fun t => t.opened c.stamp.takeNumber (min c.judged.time u.clock.time)
        t.rollSerial)).announceGuard.createItem d (c.item d c.flags (some ((u.drop d).take.nextNumber c.stamp.takeNumber)))).store.serial }) =
      fun t => { t with rollSerial := (u.store.serial + 1) % 4294967296 } := by
    funext t
    rw [State.createItem_store]
    rfl
  have hroll (u : State) : u.rollOpens d c = _ := (u.opening_createItem d _ _ _).symm.trans (by rw [← hopens])
  by_cases hrolling : s.rolling d = true
  · rw [if_pos ((s.rolling_eq_true_iff d).mp hrolling), hroll]
    unfold State.completeRoll
    dsimp only
    rw [if_pos hrolling]
    rfl
  · rw [if_neg (mt (s.rolling_eq_true_iff d).mpr hrolling), hroll]
    unfold State.completeRoll
    dsimp only
    rw [if_neg hrolling]

theorem State.take_superseded (s : State) (d : DropId) (c : Converted) :
    ((s.superseded d c).drop d).take = { (s.drop d).take with lastClose := .superseded } := by
  rw [State.superseded, (State.createItem_copiesChange _ d _ d).take, State.drop_updTake, if_pos rfl]

theorem State.serial_superseded (s : State) (d : DropId) (c : Converted) :
    (s.superseded d c).store.serial = (s.store.serial + 1) % 4294967296 := by
  rw [State.superseded, State.createItem_store]
  rfl

theorem State.clock_superseded (s : State) (d : DropId) (c : Converted) : (s.superseded d c).clock = s.clock :=
  (State.createItem_touches _ d _).clock rfl

/-- The take opens in a drop of a known take. -/
theorem State.opening_eq {s : State} {d : DropId} {t : Take} (h : (s.drop d).take = t) (device : Option Nat)
    (rollTime : Nat) :
    s.opening d device rollTime = s.guarded.updDrop d (fun x =>
      { x with take := t.opened device rollTime ((s.store.serial + 1) % 4294967296) }) := by
  refine s.guarded.updDrop_congr d ?_
  have hdrop : s.guarded.drop d = s.drop d := rfl
  rw [hdrop, h]

/-! ## A CLAP -/

theorem State.drop_foldl_updTake (f : Take → Take) {ds : List DropId} (hnodup : ds.Nodup) (s : State) (e : DropId) :
    (ds.foldl (fun s x => s.updTake x f) s).drop e =
      if e ∈ ds then { s.drop e with take := f (s.drop e).take } else s.drop e := by
  induction ds generalizing s with
  | nil => rfl
  | cons x ds ih =>
    obtain ⟨hx, hnodup⟩ := List.nodup_cons.mp hnodup
    rw [List.foldl_cons, ih hnodup, State.drop_updTake]
    by_cases he : e = x
    · subst he
      simp [hx]
    · simp [he]

/-- Of each participant the clap count rises (R122). -/
def State.clapsCounted (s : State) (number : Nat) (ds : List DropId) : State :=
  ds.foldl (fun s x => s.updTake x (fun t => { t with clapCount := satInc 65535 t.clapCount }))
    (s.setStore { s.store with syncNumber := number })

theorem State.clapsCounted_eq (s : State) (number : Nat) (ds : List DropId) :
    s.clapsCounted number ds = { s with
      drops := (s.clapsCounted number ds).drops, store := { s.store with syncNumber := number } } := by
  have htouches : Touches [.drops] (s.setStore { s.store with syncNumber := number }) (s.clapsCounted number ds) :=
    .foldl (fun u x => u.updTake_touches x _) ds _
  exact htouches.eq_of_drops

theorem State.drop_clapsCounted (s : State) (number : Nat) {ds : List DropId} (hnodup : ds.Nodup) (e : DropId) :
    (s.clapsCounted number ds).drop e = { s.drop e with take := { (s.drop e).take with
      clapCount := if e ∈ ds then min 65535 ((s.drop e).take.clapCount + 1) else (s.drop e).take.clapCount } } := by
  unfold State.clapsCounted
  rw [State.drop_foldl_updTake _ hnodup]
  split <;> rfl

theorem State.participants_nodup (s : State) (time : Nat) : (s.participants time).Nodup :=
  List.Nodup.filter _ (by decide)

/-- Records of participants stand on what the store's operations leave alone. -/
theorem State.CopiesChange.participantRecord {s t : State} (h : s.CopiesChange t) (time : Nat) (d : DropId) :
    t.participantRecord time d = s.participantRecord time d := by
  simp only [State.participantRecord, (h d).profile, (h d).cadence, (h d).take]

theorem State.participantRecord_eq (s : State) (time : Nat) (e : DropId) :
    s.participantRecord time e =
      { drop := e.val, takeNumber := (s.drop e).take.number,
        frame := frameOf (s.drop e).profile (forward (s.drop e).profile (s.drop e).cadence.anchor time),
        subframe := subframeOf (s.drop e).profile (forward (s.drop e).profile (s.drop e).cadence.anchor time),
        samplePresent := (s.drop e).profile.audio != .none,
        sample := ((sampleOf (s.drop e).profile
          (forward (s.drop e).profile (s.drop e).cadence.anchor time)).getD 0) % 2 ^ 48 } := by
  have hpresent (p : Profile) (t : Nat) : (sampleOf p t).isSome = (p.audio != .none) := by
    unfold sampleOf
    cases p.audio <;> rfl
  unfold State.participantRecord
  dsimp only
  rw [hpresent]

/-! ## FIFOs and pass copies -/

theorem State.enterFifo_enters (s : State) (side : Side) (words : List Word) :
    EntersFifo side words s (s.enterFifo side words) := by
  cases side with
  | a =>
    refine ⟨fun hroom => if_pos hroom, fun hfull => ?_⟩
    have hlost : s.enterDown words =
        (s.setTrunk { s.trunk with downOverflow := satInc16 s.trunk.downOverflow }).latch .trunkOverflow none :=
      if_neg (Nat.not_lt.mpr hfull)
    rw [State.enterFifo, hlost]
    exact ⟨rfl, LatchedExactly.of_reports (u := s.setTrunk _) rfl (State.latch_spec _ _ _)⟩
  | b =>
    refine ⟨fun hroom => if_pos hroom, fun hfull => ?_⟩
    have hlost : s.enterUp words =
        (s.setTrunk { s.trunk with upOverflow := satInc16 s.trunk.upOverflow }).latch .trunkOverflow none :=
      if_neg (Nat.not_lt.mpr hfull)
    rw [State.enterFifo, hlost]
    exact ⟨rfl, LatchedExactly.of_reports (u := s.setTrunk _) rfl (State.latch_spec _ _ _)⟩

/-- A packet on a side is counted as received, and its receiver hunts (R147). -/
def State.received (s : State) (side : Side) : State := { s with trunk := s.trunk.afterReceived side }

/-- A well-formed packet is handed on by its kind (R147, R148, R149). -/
theorem State.PacketIn.exec_wellFormed {s : State} {side : Side} {words : List Word} (h : s.PacketIn side words)
    (hcheck : checkCorrect words = true) (hheader : trunkHeaderOk words = true) :
    exec (.trunkPacketComplete side words) s =
      .next ((s.received side).classify side words (s.port side).receiver.capture) := by
  have hjudged : s.trunkPacketComplete side words = s.judgePacket side words := by
    simp only [State.trunkPacketComplete, h.receiving, h.complete, decide_true, Bool.and_self, if_true]
  have hreceived : (s.setReceiver side .hunting).updSideCounters side
      (fun c => { c with received := satInc16 c.received }) = s.received side := by
    cases side <;> rfl
  refine (exec_running h.running).trans (congrArg _ (hjudged.trans ?_))
  simp only [State.judgePacket, hcheck, hheader, Bool.not_true, Bool.false_eq_true, if_false, hreceived]

end Sys2Proof.Machine

open Sys2Proof Sys2Proof.Machine

/-- Settles O28: the conversion is the model's, its distance read as an absolute value; and a MARK and a META only make their
item, at the freed intake. -/
theorem stampTimeJudged : Obligations.StampTimeJudged := by
  refine ⟨fun s d x r p c time away hp hc htime haway => ?_, fun s d r x c scene h hkind hc => ?_⟩
  · subst hp hc htime haway
    refine ⟨fun n hn => ?_, fun l hl => ?_, s.plausible_eq d r _ _, rfl, fun _ _ => rfl⟩
    · simp only [State.convert, hn, State.deviceFrame_frame, and_self]
    · simp only [State.convert, hl, State.deviceFrame_label, and_self]
  · subst hc
    rw [h.exec]
    refine ⟨_, _, rfl, rfl, ?_⟩
    have hnumber := s.intakeFreed.rollingNumber_eq d
    rcases hkind with ⟨⟨code, hmark⟩, hscene⟩ | hmeta
    · have hcompletes : s.intakeFreed.completeKind d (s.convert d x r) = s.intakeFreed.createItem d
          ((s.convert d x r).item d (s.convert d x r).flags (s.intakeFreed.rollingNumber d)) := by
        simp only [State.completeKind, State.convert, hmark]
      rw [hcompletes, hnumber, hscene]
      exact State.createItem_made _ d _
    · have hcompletes : s.intakeFreed.completeKind d (s.convert d x r) =
          (s.intakeFreed.setLabels { s.labels with sceneIndex := scene }).createItem d
            ((s.convert d x r).item d (s.convert d x r).flags (s.intakeFreed.rollingNumber d)) := by
        simp only [State.completeKind, State.convert, hmeta]
        rfl
      rw [hcompletes, hnumber]
      exact State.createItem_made _ d _

/-- Settles O29: the item of the ROLL is made as if the take it opens already knew its serial. -/
theorem rollOpensTake : Obligations.RollOpensTake := by
  intro s d r x c n opened h hkind hc hn hopened
  have hcompletes : s.intakeFreed.completeKind d c = s.intakeFreed.completeRoll d c := by
    simp only [State.completeKind, hc, State.convert, hkind]
  have hstamp : c.stamp = x := by rw [hc]; rfl
  have hitem (m : Nat) : c.item d c.flags (some m) = .stamp
      { kind := .roll, sourceDrop := d.val, time := c.judged.time, frame := c.frame, subframe := x.subframe,
        flags := c.flags, takeNumber := some m } := by
    unfold Converted.item
    rw [hstamp, hkind]
  have hnext : (s.drop d).take.nextNumber x.takeNumber = n := hn.symm
  rw [h.exec, ← hc, hcompletes, State.completeRoll_eq]
  refine ⟨fun hidle => ?_, fun hrolling => ?_⟩
  · have hnot : ¬ (s.intakeFreed.drop d).take.state = .rolling := (Take.idle_iff_not_rolling _).mp hidle
    rw [if_neg hnot]
    refine ⟨_, _, rfl, rfl, ?_⟩
    have hopening : s.intakeFreed.opening d c.stamp.takeNumber (min c.judged.time s.intakeFreed.clock.time) =
        s.intakeFreed.guarded.updDrop d
          (fun y => { y with take := { opened with rollSerial := (s.store.serial + 1) % 4294967296 } }) := by
      rw [State.opening_eq (s := s.intakeFreed) (t := (s.drop d).take) rfl, hstamp, hopened, Take.opened, hnext]
      rfl
    have hnumber : (s.intakeFreed.drop d).take.nextNumber c.stamp.takeNumber = n := by rw [hstamp]; exact hnext
    rw [State.rollOpens, hopening, hnumber, hitem]
    exact State.createItem_made _ d _
  · have hrolls : (s.intakeFreed.drop d).take.state = .rolling := hrolling
    rw [if_pos hrolls]
    generalize hv : s.intakeFreed.superseded d c = v
    have htake : (v.drop d).take = { (s.drop d).take with lastClose := .superseded } := by
      rw [← hv]; exact s.intakeFreed.take_superseded d c
    have hserial : (v.store.serial + 1) % 4294967296 = (s.store.serial + 2) % 4294967296 := by
      have hdrawn : v.store.serial = (s.store.serial + 1) % 4294967296 := by
        rw [← hv]; exact s.intakeFreed.serial_superseded d c
      omega
    have hclock : v.clock = s.clock := by rw [← hv]; exact s.intakeFreed.clock_superseded d c
    refine ⟨_, v, _, _, rfl, rfl, ?_, rfl, ?_⟩
    · rw [← hv, State.superseded, hstamp]
      exact State.createItem_made _ d _
    · have hopening : v.opening d c.stamp.takeNumber (min c.judged.time v.clock.time) =
          v.guarded.updDrop d (fun y => { y with take := { opened with
            lastClose := .superseded, rollSerial := (s.store.serial + 2) % 4294967296 } }) := by
        rw [State.opening_eq htake, hserial, hclock, hstamp, hopened, ← hnext]
        rfl
      have hnumber : (v.drop d).take.nextNumber c.stamp.takeNumber = n := by rw [htake, hstamp]; exact hnext
      rw [State.rollOpens, hopening, hnumber, hitem]
      exact State.createItem_made _ d _

/-- Settles O30. -/
theorem cutClosesTake : Obligations.CutClosesTake := by
  intro s d r x c h hkind hc
  have hcompletes : s.intakeFreed.completeKind d c = s.intakeFreed.completeCut d c := by
    simp only [State.completeKind, hc, State.convert, hkind]
  have hitem (flags : StampFlags) (m : Option Nat) : c.item d flags m = .stamp
      { kind := .cut, sourceDrop := d.val, time := c.judged.time, frame := c.frame, subframe := x.subframe,
        flags := flags, takeNumber := m } := by
    have hstamp : c.stamp = x := by rw [hc]; rfl
    unfold Converted.item
    rw [hstamp, hkind]
  rw [h.exec, ← hc, hcompletes, State.completeCut]
  refine ⟨fun hrolling => ?_, fun hidle => ?_⟩
  · have hrolls : s.intakeFreed.rolling d = true := (s.intakeFreed.rolling_eq_true_iff d).mpr hrolling
    rw [if_pos hrolls, hitem]
    exact ⟨_, _, rfl, State.closeTake_closes _ d .cut, State.createItem_made _ d _⟩
  · have hnot : ¬ s.intakeFreed.rolling d = true :=
      mt (s.intakeFreed.rolling_eq_true_iff d).mp ((Take.idle_iff_not_rolling _).mp hidle)
    have htaken : c.stamp.takeNumber = x.takeNumber := by rw [hc]; rfl
    rw [if_neg hnot, hitem, htaken]
    exact ⟨_, rfl, State.createItem_made _ d _⟩

/-- Settles O31: the CLAP's item changes no take, profile or cadence, so the participants recorded after it are those chosen
before. -/
theorem clapBuildsSync : Obligations.ClapBuildsSync := by
  intro s d r x c ds number h hkind hc hds hnumber
  have hcompletes : s.intakeFreed.completeKind d c = s.intakeFreed.completeClap d c := by
    simp only [State.completeKind, hc, State.convert, hkind]
  have hitem (flags : StampFlags) (m : Option Nat) : c.item d flags m = .stamp
      { kind := .clap, sourceDrop := d.val, time := c.judged.time, frame := c.frame, subframe := x.subframe,
        flags := flags, takeNumber := m } := by
    have hstamp : c.stamp = x := by rw [hc]; rfl
    unfold Converted.item
    rw [hstamp, hkind]
  have hparticipants : s.intakeFreed.participants c.judged.time = ds := hds.symm
  have hrolling : s.intakeFreed.rollingNumber d = number := (s.intakeFreed.rollingNumber_eq d).trans hnumber.symm
  have hnodup : ds.Nodup := hparticipants ▸ s.intakeFreed.participants_nodup c.judged.time
  rw [h.exec, ← hc, hcompletes, State.completeClap, hparticipants, hrolling, hitem]
  refine ⟨fun hsome => ?_, fun hnone => ?_⟩
  · have hflags : ({ c.flags with orphan := decide (ds = []) } : StampFlags) = c.flags := by
      rw [decide_eq_false hsome]
      rfl
    dsimp only at hflags ⊢
    rw [hflags]
    generalize hu : s.intakeFreed.createItem d _ = u
    have hmade := s.intakeFreed.createItem_made d (.stamp
      { kind := .clap, sourceDrop := d.val, time := c.judged.time, frame := c.frame, subframe := x.subframe,
        flags := c.flags, takeNumber := number })
    have hcopies : s.intakeFreed.CopiesChange u := hu ▸ State.createItem_copiesChange _ d _
    have hsync : u.store.syncNumber = s.store.syncNumber := by rw [← hu, State.createItem_store]; rfl
    rw [hu] at hmade
    rw [State.buildSync, if_neg hsome]
    refine ⟨u, u.clapsCounted ((s.store.syncNumber + 1) % 65536) ds, _, rfl, hmade, u.clapsCounted_eq _ ds,
      fun e => ?_, ?_⟩
    · rw [u.drop_clapsCounted _ hnodup, (hcopies e).take]
      rfl
    · have hrecords : ds.map (u.participantRecord c.judged.time) = ds.map (s.participantRecord c.judged.time) :=
        List.map_congr_left fun e _ => hcopies.participantRecord c.judged.time e
      simp only [← State.participantRecord_eq]
      rw [hrecords, hsync]
      exact State.createItem_made _ d _
  · have hflags : ({ c.flags with orphan := decide (ds = []) } : StampFlags) = { c.flags with orphan := true } := by
      rw [decide_eq_true hnone]
    rw [State.buildSync, if_pos hnone, hflags]
    exact ⟨_, _, rfl, State.createItem_made _ d _, rfl, State.latch_spec _ _ _⟩

/-- Settles O42. -/
theorem foreignItemsByRoute : Obligations.ForeignItemsByRoute := by
  intro s words k item up m hin hcheck hheader hkind hlookup
  have hclassify : (s.received .b).classify .b words (s.port .b).receiver.capture =
      (s.received .b).foreignArrival words k (some item) := by
    rcases hkind with ⟨rfl, hstamp, hitem⟩ | ⟨rfl, hsync, rfl⟩
    · simp only [State.classify, hstamp, hitem]
    · simp only [State.classify, hsync]
  have hresult : (s.received .b).lookup k (trunkSource words) = (up, m) := hlookup
  rw [hin.exec_wellFormed hcheck hheader, hclassify, State.foreignArrival]
  dsimp only
  rw [hresult]
  refine ⟨fun hup hm => ?_, fun hnamed => ?_⟩
  · subst hup hm
    rfl
  · have hgoes : ¬ ((!up && m == 0#8) = true) := by
      rintro hnot
      obtain ⟨hup, hm⟩ := Bool.and_eq_true_iff.mp hnot
      rcases hnamed with rfl | hne
      · exact Bool.false_ne_true hup
      · exact hne (eq_of_beq hm)
    rw [if_neg hgoes]
    refine ⟨s.received .b, if up = true then (s.received .b).enterUp words else s.received .b, _, rfl, rfl,
      fun hup => ?_, fun hup => if_neg (hup ▸ Bool.false_ne_true), fun hm => ?_, fun hm => ?_⟩
    · rw [if_pos hup]
      exact State.enterFifo_enters _ .b words
    · rw [if_pos (bne_iff_ne.mpr hm)]
      exact State.createPassCopy_handed _ item m
    · rw [if_neg (by rw [hm]; exact Bool.false_ne_true)]
end

section
/-! SUPPORT. The trunk ports command by command: the receivers (R146), what becomes of a packet received (R147 to R152), and
the transmissions of the two sides (R156, R157). -/

namespace Sys2Proof.Machine

/- One proof after another: a thread for each would take more memory than a check has. -/
set_option Elab.async false

/-! ## Receivers (R146, R147) -/

theorem State.setReceiver_eq (s : State) (side : Side) (c : Receiver) :
    s.setReceiver side c = { s with trunk := s.trunk.withPort side { s.port side with
      receiver := { (s.port side).receiver with condition := c } } } := by
  cases side <;> rfl

/-- A packet is refused: its side's receiver goes into a condition, and its counters change. -/
def State.refused (s : State) (side : Side) (c : Receiver) (f : SideCounters → SideCounters) : State :=
  { s with trunk := s.trunk.afterRefused side c f }

theorem State.setReceiver_updSideCounters (s : State) (side : Side) (c : Receiver) (f : SideCounters → SideCounters) :
    (s.setReceiver side c).updSideCounters side f = s.refused side c f := by
  cases side <;> rfl

theorem State.received_updSideCounters (s : State) (side : Side) (f : SideCounters → SideCounters) :
    (s.received side).updSideCounters side f =
      s.refused side .hunting (fun c => f { c with received := min 65535 (c.received + 1) }) := by
  cases side <;> rfl

/-- A refusal that latches CHECK_ERROR reaches its side's receiver and counters, and the latches. -/
theorem State.refused_latch (s : State) (side : Side) (c : Receiver) (f : SideCounters → SideCounters) (cause : Cause) :
    (s.refused side c f).latch cause none = { s with
      trunk := s.trunk.afterRefused side c f, reports := ((s.refused side c f).latch cause none).reports }
    ∧ LatchedExactly [cause] none s ((s.refused side c f).latch cause none) :=
  ⟨rfl, LatchedExactly.of_reports (u := s.refused side c f) rfl (State.latch_spec _ _ _)⟩

theorem State.PacketIn.exec_judged {s : State} {side : Side} {words : List Word} (h : s.PacketIn side words) :
    exec (.trunkPacketComplete side words) s = .next (s.judgePacket side words) := by
  refine (exec_running h.running).trans (congrArg _ ?_)
  show s.trunkPacketComplete side words = _
  simp only [State.trunkPacketComplete, h.receiving, h.complete, decide_true, Bool.and_self, if_true]

/-! ## MGMT packets (R150, R165) -/

theorem State.queueRequest_eq (s : State) (side : Side) (words : List Word) :
    s.queueRequest side words = { s with mgmt := s.mgmt.afterArrival side words } := by
  unfold State.queueRequest Management.afterArrival
  split
  next h => rw [if_pos (show s.mgmt.queue.length < 4 from h)]; rfl
  next h => rw [if_neg (show ¬ s.mgmt.queue.length < 4 from h)]; rfl

/-- A packet is for this part when it is strapped with the packet's destination, 1 to 62 (R161). -/
theorem State.ownStation_iff (s : State) {n : Nat} (h : n ≠ 0) :
    (s.addressed && n == s.trunk.station.toNat) = true ↔ n = s.trunk.station.toNat ∧ n ≠ 63 := by
  have hzero : s.trunk.station = 0#6 ↔ s.trunk.station.toNat = 0 := BitVec.toNat_inj.symm
  have hlast : s.trunk.station = 63#6 ↔ s.trunk.station.toNat = 63 := BitVec.toNat_inj.symm
  simp only [State.addressed, Bool.and_eq_true, bne_iff_ne, ne_eq, beq_iff_eq, hzero, hlast]
  omega

theorem State.mgmtArrival_spec (s : State) (side : Side) (words : List Word) :
    ∃ v, v = { s with mgmt := s.mgmt.afterArrival side words }
      ∧ (if trunkDest words = 0 then
          if side = .a then EntersFifo .a words v (s.mgmtArrival side words) else s.mgmtArrival side words = v
        else if trunkDest words = s.trunk.station.toNat ∧ trunkDest words ≠ 63 then s.mgmtArrival side words = v
        else EntersFifo side words s (s.mgmtArrival side words)) := by
  refine ⟨_, rfl, ?_⟩
  unfold State.mgmtArrival
  rw [State.queueRequest_eq]
  by_cases hall : trunkDest words = 0
  · rw [if_pos hall, if_pos hall]
    by_cases hside : side = .a
    · rw [if_pos hside, if_pos hside]
      exact State.enterFifo_enters _ .a words
    · rw [if_neg hside, if_neg hside]
  · rw [if_neg hall, if_neg hall]
    by_cases hown : (s.addressed && trunkDest words == s.trunk.station.toNat) = true
    · rw [if_pos hown, if_pos ((s.ownStation_iff hall).mp hown)]
    · rw [if_neg hown, if_neg (mt (s.ownStation_iff hall).mpr hown)]
      exact s.enterFifo_enters side words

/-! ## Transmissions (R156, R157) -/

theorem exec_sideATransmitStart {s : State} (hrun : s.inReset = false) (hidle : s.trunk.transmissionA = none) :
    exec .sideATransmitStart s = .next s.startOnA := by
  refine (exec_running hrun).trans (congrArg _ ?_)
  exact if_pos (by rw [hidle]; rfl)

theorem exec_sideBTransmitStart {s : State} (hrun : s.inReset = false) (hidle : s.trunk.transmissionB = none)
    (k : DividerCount) : exec (.sideBTransmitStart k) s = .next ((s.atDivider k).startOnB k) := by
  refine (exec_running hrun).trans (congrArg _ ?_)
  exact if_pos (by rw [State.atDivider_trunk, hidle]; rfl)

/-- The transmission on side A has ended and is counted. -/
def State.endedOnA (s : State) : State := (s.setTrunk { s.trunk with transmissionA := none }).countTransmitted .a

theorem State.sideATransmitted_of_item {s : State} {n : Nat} {words : List Word}
    (h : s.trunk.transmissionA = some (.item n words)) : s.sideATransmitted = s.endedOnA.deliveredUp n := by
  simp only [State.sideATransmitted, h, State.endedOnA]

theorem State.sideATransmitted_of_packet {s : State} {x : SideATransmission} (h : s.trunk.transmissionA = some x)
    (hx : ∀ n words, x ≠ .item n words) : s.sideATransmitted = s.endedOnA := by
  cases x with
  | item n words => exact absurd rfl (hx n words)
  | reply words | report words | upFifo words => simp only [State.sideATransmitted, h, State.endedOnA]

theorem State.startOnA_of_empty {s : State} (hreplies : s.trunk.sideA.replies = []) (hslot : s.trunk.reportSlot = none)
    (hfifo : s.trunk.upFifo = []) : s.startOnA = s.startItem := by
  simp only [State.startOnA, hreplies, hslot, hfifo]

theorem State.mem_offered {s : State} (hidle : s.trunk.transmissionA = none) (x : Held) :
    x ∈ s.heldItems.filter (fun h => h.up && !s.sendingOnA h.serial) ↔ x ∈ s.heldItems ∧ x.up = true := by
  simp [List.mem_filter, State.sendingOnA, hidle]

/-- Side A is offered the oldest held item that names UP. -/
theorem State.offeredItem_of_oldest {s : State} {h : Held} (hidle : s.trunk.transmissionA = none) (hheld : h ∈ s.heldItems)
    (hup : h.up = true) (hages : (s.heldItems.map s.age).Nodup)
    (holdest : ∀ x ∈ s.heldItems, x.up = true → s.age x ≤ s.age h) : s.offeredItem = some h := by
  have hmem : h ∈ s.heldItems.filter (fun h => h.up && !s.sendingOnA h.serial) :=
    (State.mem_offered hidle h).mpr ⟨hheld, hup⟩
  unfold State.offeredItem State.oldest
  cases hoffered : oldestBy s.age (s.heldItems.filter (fun h => h.up && !s.sendingOnA h.serial)) with
  | none =>
    rw [oldestBy_eq_none_iff] at hoffered
    exact absurd (hoffered ▸ hmem) List.not_mem_nil
  | some x =>
    obtain ⟨hx, hages_le⟩ := oldestBy_spec hoffered
    obtain ⟨hxheld, hxup⟩ := (State.mem_offered hidle x).mp hx
    have hage : s.age x = s.age h := Nat.le_antisymm (holdest x hxheld hxup) (hages_le h hmem)
    exact congrArg some (List.inj_on_of_nodup_map hages hxheld hheld hage)

theorem State.offeredItem_of_none {s : State} (hidle : s.trunk.transmissionA = none)
    (hnone : ∀ h ∈ s.heldItems, h.up = false) : s.offeredItem = none := by
  refine (oldestBy_eq_none_iff _ _).mpr (List.eq_nil_iff_forall_not_mem.mpr fun x hx => ?_)
  obtain ⟨hheld, hup⟩ := (State.mem_offered hidle x).mp hx
  exact Bool.false_ne_true ((hnone x hheld).symm.trans hup)

/-! ## Delivery sets (R137) -/

theorem SetsChange.congr {f g : Held → Held} {s t : State} (h : SetsChange f s t) (hfg : ∀ x, g x = f x) :
    SetsChange g s t := by
  obtain rfl : g = f := funext hfg
  exact h

theorem State.strip_setsChange (s : State) (f : Held → Held) : SetsChange f s (s.strip f) := by
  refine ⟨rfl, fun i => ⟨_, rfl, ?_⟩⟩
  unfold State.strip
  rw [State.region_updAllRegions]
  simp only [Region.strip, List.length_map]
  rfl

theorem State.deliveredUp_setsChange (s : State) (n : Nat) :
    SetsChange (fun h => if h.serial = n then { h with up := false } else h) s (s.deliveredUp n) :=
  (s.strip_setsChange _).congr fun _ => if_congr beq_iff_eq.symm rfl rfl

end Sys2Proof.Machine

open Sys2Proof Sys2Proof.Machine

/-- Settles O38. -/
theorem trunkReceiver : Obligations.TrunkReceiver := by
  intro s side hrun
  refine ⟨fun k hhunting hlt => ?_, fun hreceiving => ?_, fun hresync => ?_⟩
  · have htime : (s.atDivider k).houseTimeAt k = s.clock.time + k.val * 125 / 16 := houseTimeOf_of_lt hlt
    have hstarted : s.trunkStartBit side k = (s.atDivider k).updPort side (fun p =>
        { p with receiver := { condition := .receiving, capture := (s.atDivider k).houseTimeAt k } }) :=
      if_pos hhunting
    rw [exec_running hrun, effectOf, hstarted, htime]
    cases side <;> rfl
  · have hlost : s.trunkLostSignal side = ((s.setReceiver side .resynchronising).updSideCounters side
        (fun c => { c with malformed := satInc16 c.malformed })).latch .checkError none := if_pos hreceiving
    rw [exec_running hrun, effectOf, hlost, State.setReceiver_updSideCounters]
    exact ⟨_, rfl, s.refused_latch side _ _ _⟩
  · have hhunts : s.trunkResynced side = s.setReceiver side .hunting := if_pos hresync
    rw [exec_running hrun, effectOf, hhunts, State.setReceiver_eq]

/-- Settles O39. -/
theorem trunkPacketTurnedAway : Obligations.TrunkPacketTurnedAway := by
  intro s side words hin
  refine ⟨fun hcheck => ?_, fun hcheck hheader => ?_, fun k hcheck hheader hkind hstray => ?_,
    fun hcheck hheader hkind hside hhop => ?_⟩
  · have hjudged : s.judgePacket side words = (s.refused side .resynchronising
        (fun c => { c with checkFailures := satInc16 c.checkFailures })).latch .checkError none := by
      rw [← State.setReceiver_updSideCounters]
      exact if_pos (by rw [hcheck]; rfl)
    rw [hin.exec_judged, hjudged]
    exact ⟨_, rfl, s.refused_latch side _ _ _⟩
  · have hjudged : s.judgePacket side words = (s.refused side .hunting
        (fun c => { c with malformed := satInc16 c.malformed })).latch .checkError none := by
      rw [← State.setReceiver_updSideCounters]
      exact (if_neg (by rw [hcheck]; exact Bool.false_ne_true)).trans (if_pos (by rw [hheader]; rfl))
    rw [hin.exec_judged, hjudged]
    exact ⟨_, rfl, s.refused_latch side _ _ _⟩
  · have hclassify : (s.received side).classify side words (s.port side).receiver.capture =
        (s.received side).misdirected side := by
      rcases hstray with ⟨rfl, hk⟩ | ⟨rfl, rfl⟩
      · simp only [List.mem_cons, List.not_mem_nil, or_false] at hk
        rcases hk with rfl | rfl | rfl | rfl <;> simp only [State.classify, hkind]
      · simp only [State.classify, hkind]
    rw [hin.exec_wellFormed hcheck hheader, hclassify]
    exact congrArg _ (s.received_updSideCounters side _)
  · subst hside
    have hclassify : (s.received .a).classify .a words (s.port .a).receiver.capture =
        (s.received .a).updSideCounters .a (fun c => { c with hopLimit := satInc16 c.hopLimit }) := by
      simp only [State.classify, hkind, State.timePacketOnA, hhop, if_true]
    rw [hin.exec_wellFormed hcheck hheader, hclassify]
    exact congrArg _ (s.received_updSideCounters .a _)

/-- Settles O40. -/
theorem trunkPacketsTravelOn : Obligations.TrunkPacketsTravelOn := by
  intro s words hcheck hheader
  refine ⟨fun hin hkind => ?_, fun k hin hkind hk => ?_⟩
  · have hclassify : (s.received .a).classify .a words (s.port .a).receiver.capture =
        (s.received .a).enterFifo .a words := by
      simp only [State.classify, hkind, State.enterFifo]
    obtain ⟨hroom, hfull⟩ := (s.received .a).enterFifo_enters .a words
    rw [hin.exec_wellFormed hcheck hheader, hclassify]
    refine ⟨fun hlt => congrArg _ (hroom hlt), fun hle => ?_⟩
    obtain ⟨hlost, hlatched⟩ := hfull hle
    exact ⟨_, rfl, hlost, .of_reports (u := s.received .a) rfl hlatched⟩
  · have hclassify : (s.received .b).classify .b words (s.port .b).receiver.capture =
        (s.received .b).enterFifo .b words := by
      simp only [List.mem_cons, List.not_mem_nil, or_false] at hk
      rcases hk with rfl | rfl | rfl <;> simp only [State.classify, hkind, State.enterFifo]
    obtain ⟨hroom, hfull⟩ := (s.received .b).enterFifo_enters .b words
    rw [hin.exec_wellFormed hcheck hheader, hclassify]
    refine ⟨fun hlt => congrArg _ (hroom hlt), fun hle => ?_⟩
    obtain ⟨hlost, hlatched⟩ := hfull hle
    exact ⟨_, rfl, hlost, .of_reports (u := s.received .b) rfl hlatched⟩

/-- Settles O41. -/
theorem managementPacketsByStation : Obligations.ManagementPacketsByStation := by
  intro s side words hin hcheck hheader hkind
  have hclassify : (s.received side).classify side words (s.port side).receiver.capture =
      (s.received side).mgmtArrival side words := by
    cases side <;> simp only [State.classify, hkind]
  obtain ⟨v, hv, harrives⟩ := (s.received side).mgmtArrival_spec side words
  have hstation : (s.received side).trunk.station = s.trunk.station := by cases side <;> rfl
  rw [hstation] at harrives
  rw [hin.exec_wellFormed hcheck hheader, hclassify]
  exact ⟨_, v, _, rfl, rfl, hv, harrives⟩

/-- Settles O43. -/
theorem sideAServesInOrder : Obligations.SideAServesInOrder := by
  intro s hrun hidle
  rw [exec_sideATransmitStart hrun hidle]
  refine ⟨fun w rest hreplies => ?_, fun r hreplies hslot => ?_, fun w rest hreplies hslot hfifo => ?_,
    fun h hheld hreplies hslot hfifo hup hages holdest => ?_, fun hreplies hslot hfifo hnone => ?_⟩
  · simp only [State.startOnA, hreplies]
    rfl
  · simp only [State.startOnA, hreplies, hslot]
    rfl
  · simp only [State.startOnA, hreplies, hslot, hfifo]
    rfl
  · rw [State.startOnA_of_empty hreplies hslot hfifo, State.startItem,
      State.offeredItem_of_oldest hidle hheld hup hages holdest]
    rfl
  · rw [State.startOnA_of_empty hreplies hslot hfifo, State.startItem, State.offeredItem_of_none hidle hnone]

/-- Settles O44. -/
theorem sideACompletes : Obligations.SideACompletes := by
  intro s x hrun hx
  rw [exec_running hrun, effectOf]
  cases x with
  | item n words =>
    obtain ⟨hsame, hregions⟩ := s.endedOnA.deliveredUp_setsChange n
    rw [State.sideATransmitted_of_item hx]
    refine ⟨_, rfl, hsame, fun hnot => absurd rfl (hnot n words), fun m w hitem i => ?_⟩
    cases hitem
    obtain ⟨kept, hkept, hregion⟩ := hregions i
    rw [hregion]
    exact ⟨hkept, rfl, rfl⟩
  | reply words | report words | upFifo words =>
    rw [State.sideATransmitted_of_packet hx nofun]
    exact ⟨_, rfl, rfl, fun _ => rfl, fun m w hitem => nomatch hitem⟩

/-- Settles O45. -/
theorem sideBServesInOrder : Obligations.SideBServesInOrder := by
  intro s hrun
  refine ⟨fun k hidle => ?_, fun hsending => ?_⟩
  · rw [exec_sideBTransmitStart hrun hidle]
    have htrunk : (s.atDivider k).trunk = s.trunk := rfl
    refine ⟨fun x hslot hlt => ?_, fun w rest hslot hreplies => ?_, fun w rest hslot hreplies hfifo => ?_⟩
    · have htime : (s.atDivider k).houseTimeAt k = s.clock.time + k.val * 125 / 16 := houseTimeOf_of_lt hlt
      simp only [State.startOnB, htrunk, hslot, State.timePacket, htime]
      rfl
    · simp only [State.startOnB, htrunk, hslot, hreplies]
      rfl
    · simp only [State.startOnB, htrunk, hslot, hreplies, hfifo]
      rfl
  · rw [exec_running hrun]
    exact congrArg _ (if_pos (Option.isSome_iff_ne_none.mpr hsending))
end

section
/-! SUPPORT. The commands of a drop's lines that change one line (R85 to R95), the DF line's edges (R65, R66), and the
intake's choice of the next holding register (R107). -/

namespace Sys2Proof.Machine

/- One proof after another: a thread for each would take more memory than a check has. -/
set_option Elab.async false

/-! ## A command that changes one line -/

/-- What an answer says that changes the line of one drop. -/
theorem State.updLine_answer (s : State) (d : DropId) (f : Line → Line) :
    ∃ t, (.next (s.updLine d f) : Answer) = .next t ∧ OnlyDrop d s t
      ∧ t.drop d = { s.drop d with line := f (s.drop d).line } :=
  ⟨_, rfl, s.onlyDrop_updDrop d _, s.drop_updLine_self d f⟩

/-- A packet abandoned as malformed, and what becomes of its shift register. -/
theorem State.countMalformed_updLine (s : State) (d : DropId) (f : Line → Line) :
    (s.countMalformed d).updLine d f =
      (s.updLine d (fun l => f { l with counters := { l.counters with malformed := satInc16 l.counters.malformed } })).latch
        .checkError (some d) := by
  rw [← State.updLine_updLine s d (fun l => { l with counters :=
    { l.counters with malformed := satInc16 l.counters.malformed } }) f]
  rfl

theorem State.countMalformed_answer (s : State) (d : DropId) (f : Line → Line) :
    ∃ t, (.next ((s.countMalformed d).updLine d f) : Answer) = .next t ∧ OnlyDropAndLatches d s t
      ∧ LatchedExactly [.checkError] (some d) s t
      ∧ t.drop d = { s.drop d with line := f { (s.drop d).line with counters := { (s.drop d).line.counters with
          malformed := satInc16 (s.drop d).line.counters.malformed } } } := by
  rw [State.countMalformed_updLine]
  generalize hu : s.updLine d _ = u
  have hdrop : u.drop d = _ := hu ▸ s.drop_updLine_self d _
  have honly : OnlyDrop d s u := hu ▸ s.onlyDrop_updLine d _
  have hreports : u.reports = s.reports := hu ▸ rfl
  exact ⟨_, rfl, honly.latch _ _, .of_reports hreports (u.latch_spec _ _), hdrop⟩

/-! ## Activity (R95, R99) -/

theorem Line.changed_activity (l : Line) (c : LineChange) :
    { l.changed c with activity := true } = { l with
      activity := true,
      shift := if c = .drStartBit ∧ l.shift = .hunting then .receiving else l.shift,
      receiveStall := if (c = .drStartBit ∧ l.shift = .hunting) ∨ c = .dkRise then 0 else l.receiveStall,
      transmitStall := if c = .dkRise ∨ c = .dkFall then 0 else l.transmitStall } := by
  cases c with
  | drStartBit =>
    by_cases hhunting : l.shift = .hunting
    · simp [Line.changed, hhunting]
    · simp [Line.changed, hhunting]
  | drLevel => simp [Line.changed]
  | dkRise => simp [Line.changed]
  | dkFall => simp [Line.changed]

theorem OnlyDrop.trans {d : DropId} {s t u : State} (h : OnlyDrop d s t) (h' : OnlyDrop d t u) : OnlyDrop d s u := by
  obtain ⟨hframe, hothers⟩ := h
  obtain ⟨hframe', hothers'⟩ := h'
  refine ⟨?_, fun e he => (hothers' e he).trans (hothers e he)⟩
  rw [hframe] at hframe'
  exact hframe'

theorem Line.enabled_iff (l : Line) : l.enabled = true ↔ l.state ≠ .disabled := bne_iff_ne

/-- A DORMANT drop wakes, and its queue is filled (R99, R134). -/
theorem State.wake_spec (s : State) (d : DropId) :
    OnlyDrop d s (s.wake d)
    ∧ (s.wake d).FilledFrom d { s.drop d with line := { (s.drop d).line with
        state := .active, activity := true, quietTimer := 0,
        counters := { (s.drop d).line.counters with wakes := satInc16 (s.drop d).line.counters.wakes } } } := by
  have hwoken := State.drop_updLine_self s d (fun l =>
    { l with state := .active, activity := true, quietTimer := 0,
             counters := { l.counters with wakes := satInc16 l.counters.wakes } })
  refine ⟨(s.onlyDrop_updLine d _).trans (State.fill_onlyDrop _ d), ?_⟩
  rw [← hwoken]
  exact State.fill_filledFrom _ d

/-! ## Transmissions (R93, R94) -/

theorem Drop.mayStart_of {x : Drop} (hline : x.onLine = true) (hidle : x.line.transmission = none)
    (hwait : x.line.wait = false) : x.mayStart = true := by
  simp [Drop.mayStart, hline, hidle, hwait]

theorem State.deliveredToDrop_setsChange (s : State) (n : Nat) (d : DropId) :
    SetsChange (fun h => if h.serial = n then { h with drops := h.drops &&& ~~~(maskOf d) } else h) s
      (s.deliveredToDrop n d) :=
  (s.strip_setsChange _).congr fun _ => if_congr beq_iff_eq.symm rfl rfl

/-- A copy has gone out (R93, R135). -/
theorem State.copySent_spec (s : State) (d : DropId) (n : Nat) :
    SetsChange (fun h => if h.serial = n then { h with drops := h.drops &&& ~~~(maskOf d) } else h) s
      { s.copySent d n with drops := s.drops }
    ∧ (∀ e, e ≠ d → (s.copySent d n).drop e = s.drop e)
    ∧ (s.copySent d n).FilledFrom d { s.drop d with line := { (s.drop d).line with
        transmission := none, transmitStall := 0,
        copyQueue := (s.drop d).line.copyQueue.filter (fun m => m != n),
        counters := { (s.drop d).line.counters with copiesSent := satInc16 (s.drop d).line.counters.copiesSent } } } := by
  have hsent := State.drop_updLine_self s d (fun l =>
    { l with transmission := none, transmitStall := 0, copyQueue := l.copyQueue.filter (fun m => m != n),
             counters := { l.counters with copiesSent := satInc16 l.counters.copiesSent } })
  generalize hu : s.updLine d _ = u at hsent
  have hothers (e : DropId) (he : e ≠ d) : u.drop e = s.drop e := by rw [← hu, State.drop_updLine, if_neg he]
  have hcopy : s.copySent d n = (u.deliveredToDrop n d).fill d := by rw [← hu]; rfl
  have hdrops : (u.deliveredToDrop n d).drops = u.drops := rfl
  obtain ⟨hfilled, hrest⟩ := (u.deliveredToDrop n d).fill_onlyDrop d
  rw [hcopy]
  refine ⟨?_, fun e he => (hrest e he).trans ((State.drop_eq_of_drops hdrops e).trans (hothers e he)), ?_⟩
  · have hstripped : { (u.deliveredToDrop n d).fill d with drops := s.drops } = s.deliveredToDrop n d := by
      rw [hfilled, ← hu]
      rfl
    rw [hstripped]
    exact s.deliveredToDrop_setsChange n d
  · rw [← hsent, ← State.drop_eq_of_drops hdrops d]
    exact State.fill_filledFrom _ d

theorem Line.abort_of_sending {l : Line} (h : l.transmission ≠ none) :
    l.abort true = { l with
      transmission := none, transmitStall := 0,
      counters := { l.counters with transmitAborts := satInc16 l.counters.transmitAborts } } :=
  if_pos (Option.isSome_iff_ne_none.mpr h)

/-! ## The intake's turn (R107) -/

theorem State.nextServed_eq {s : State} {d : DropId} {n : Nat} (hn : 1 ≤ n) (hle : n ≤ 8)
    (hd : d.val = (s.intake.lastServed.val + n) % 8) (hfull : (s.drop d).line.holding ≠ none)
    (hempty : ∀ e : DropId, ∀ m, 1 ≤ m → m < n → e.val = (s.intake.lastServed.val + m) % 8 →
      (s.drop e).line.holding = none) : s.nextServed = some d := by
  have hplaces : [1, 2, 3, 4, 5, 6, 7, 8] = List.range' 1 8 := rfl
  have hat : dropAfter s.intake.lastServed n = d := Fin.ext hd.symm
  rw [State.nextServed, hplaces, List.find?_map, ← hat]
  refine congrArg (Option.map _) (List.find?_range'_eq_some.mpr ⟨?_, ?_, fun m hm hlt => ?_⟩)
  · exact Option.isSome_iff_ne_none.mpr (hat.symm ▸ hfull)
  · exact List.mem_range'_1.mpr ⟨hn, by omega⟩
  · have hnone := hempty (dropAfter s.intake.lastServed m) m hm hlt rfl
    simp [hnone]

/-! ## The DF line's edges (R65, R66) -/

theorem Drop.followsWord_iff (x : Drop) :
    x.followsWord = true ↔ x.line.state ≠ .disabled ∧ x.profile.dfFunction = .word ∧ x.df.waitsForBoundary = false := by
  simp [Drop.followsWord, Line.enabled_iff, and_assoc]

theorem State.dfLevel_of_followsWord {s : State} {d : DropId} {k : DividerCount} {ps : Nat}
    (hlt : s.clock.time + k.val * 125 / 16 < 2 ^ 64) (hfollows : (s.drop d).followsWord = true)
    (hps : (s.drop d).profile.audio.period = some ps) :
    s.dfLevel d k = decide (forward (s.drop d).profile (s.drop d).cadence.anchor
      (s.clock.time + k.val * 125 / 16) % ps < ps / 2) := by
  have htime : s.houseTimeAt k = s.clock.time + k.val * 125 / 16 := houseTimeOf_of_lt hlt
  rw [State.dfLevel, if_pos hfollows, htime]
  simp only [wordLevel, hps]

end Sys2Proof.Machine

open Sys2Proof Sys2Proof.Machine

/-- Settles O18. -/
theorem dfLineEdges : Obligations.DfLineEdges := by
  refine ⟨fun s d k follows hlt hfollows => ⟨fun hnot => ?_, fun ps hps hword => ?_⟩,
    fun s d e hrun hpulse hreached => ?_, fun s d k ps hrun henabled hfunction hps hwaits hlt => ?_⟩
  · refine s.dfLevel_of_not_followsWord d k (Bool.eq_false_of_not_eq_true fun hword => ?_)
    exact Bool.false_ne_true (hnot.symm.trans (hfollows.mpr ((s.drop d).followsWord_iff.mp hword)))
  · exact State.dfLevel_of_followsWord hlt ((s.drop d).followsWord_iff.mpr (hfollows.mp hword)) hps
  · have hends : s.endPulse d = s.updDf d DfLine.lowered := by
      simp only [State.endPulse, hpulse, hreached, if_true]
    rw [exec_running hrun, effectOf, hends]
    exact ⟨_, rfl, s.onlyDrop_updDrop d _, s.drop_updDrop_self d _⟩
  · have hlevel := State.dfLevel_of_followsWord hlt ((s.drop d).followsWord_iff.mpr ⟨henabled, hfunction, hwaits⟩) hps
    rw [exec_running hrun, effectOf, ← hlevel]
    have hdrop (e : DropId) := (s.atDivider k).drop_driveDf d e k
    exact ⟨_, rfl, rfl, fun e he => (hdrop e).trans (if_neg he), (hdrop d).trans (if_pos rfl)⟩

/-- Settles O20. -/
theorem dropPacketAbandoned : Obligations.DropPacketAbandoned := by
  intro s d hrun hline
  refine ⟨fun kind len hshift hwait hheader => ?_, fun hshift hwait hstall => ?_, fun hresync => ?_⟩
  · have hin : (s.drop d).shiftingIn = true := (s.drop d).shiftingIn_iff.mpr ⟨hline, hshift, hwait⟩
    have habandoned : s.headerMalformed d kind len =
        (s.countMalformed d).updLine d (fun l => { l with shift := .resynchronising, receiveStall := 0 }) :=
      if_pos (by rw [hin, hheader]; rfl)
    rw [exec_running hrun, effectOf, habandoned]
    exact s.countMalformed_answer d _
  · have hin : (s.drop d).shiftingIn = true := (s.drop d).shiftingIn_iff.mpr ⟨hline, hshift, hwait⟩
    have habandoned : s.receiveStalled d = (s.countMalformed d).updLine d Line.clearShift :=
      if_pos (Bool.and_eq_true_iff.mpr ⟨hin, decide_eq_true hstall⟩)
    rw [exec_running hrun, effectOf, habandoned]
    exact s.countMalformed_answer d _
  · have hhunts : s.dropResynced d = s.updLine d Line.clearShift := if_pos (by rw [hline, hresync]; rfl)
    rw [exec_running hrun, effectOf, hhunts]
    exact s.updLine_answer d _

/-- Settles O22. -/
theorem activityWakes : Obligations.ActivityWakes := by
  intro s d c l l' hrun hline hl hdk hl'
  have hwatched : ((s.drop d).onLine && (!onDk c || (s.drop d).profile.clocking == .device)) = true := by
    cases c with
    | drStartBit | drLevel => simp [hline, onDk]
    | dkRise | dkFall => simp [hline, hdk]
  have hactive : s.lineActivity d c =
      if (s.drop d).line.state == .dormant then (s.updLine d (fun l => { l.changed c with activity := true })).wake d
      else s.updLine d (fun l => { l.changed c with activity := true }) := if_pos hwatched
  have hdrop : (s.updLine d (fun l => { l.changed c with activity := true })).drop d = { s.drop d with line := l' } := by
    rw [State.drop_updLine_self, Line.changed_activity, hl', hl]
  have honly := s.onlyDrop_updLine d (fun l => { l.changed c with activity := true })
  generalize s.updLine d (fun l => { l.changed c with activity := true }) = u at hactive hdrop honly
  rw [exec_running hrun, effectOf, hactive]
  by_cases hdormant : l.state = .dormant
  · rw [hl] at hdormant
    rw [if_pos (beq_iff_eq.mpr hdormant)]
    obtain ⟨hwakes, hfilled⟩ := u.wake_spec d
    rw [hdrop] at hfilled
    refine ⟨_, rfl, honly.trans hwakes, fun hstate => ?_, fun _ => ?_⟩
    · rw [hl, hdormant] at hstate
      cases hstate
    · rw [hl'] at hfilled ⊢
      exact hfilled
  · rw [hl] at hdormant
    rw [if_neg (mt beq_iff_eq.mp hdormant)]
    exact ⟨_, rfl, honly, fun _ => hdrop, fun hstate => absurd (hl ▸ hstate) hdormant⟩

/-- Settles O23. -/
theorem lineArbiterStart : Obligations.LineArbiterStart := by
  intro s d l hrun hline hl hidle hwait
  subst hl
  have hstarts := Drop.mayStart_of hline hidle hwait
  rw [exec_running hrun]
  refine ⟨fun f hslot => ?_, fun n rest h hslot hqueue hitem => ?_, fun hslot hqueue => ?_⟩
  · have hframe : s.lineStart d = s.updLine d (fun l =>
        { l with slot := none, transmission := some (.frame f.packet), transmitStall := 0 }) := by
      simp only [State.lineStart, hstarts, if_true, hslot]
    rw [effectOf, hframe]
    exact s.updLine_answer d _
  · have hcopy : s.lineStart d = s.updLine d (fun l =>
        { l with transmission := some (.copy n (copyPacket h)), transmitStall := 0 }) := by
      simp only [State.lineStart, hstarts, if_true, hslot, hqueue, hitem]
    rw [effectOf, hcopy]
    exact s.updLine_answer d _
  · have hnothing : s.lineStart d = s := by
      simp only [State.lineStart, hstarts, if_true, hslot, hqueue]
    rw [effectOf, hnothing]

/-- Settles O24. -/
theorem dropTransmissionEnds : Obligations.DropTransmissionEnds := by
  intro s d l hrun hl
  subst hl
  refine ⟨fun words hframe => ?_, fun n words hcopy => ?_, fun hclocking hsending hstall => ?_⟩
  · have hsent : s.dropTransmitted d = s.updLine d (fun l =>
        { l with transmission := none, transmitStall := 0,
                 counters := { l.counters with framesSent := satInc16 l.counters.framesSent } }) := by
      simp only [State.dropTransmitted, hframe]
    rw [exec_running hrun, effectOf, hsent]
    exact s.updLine_answer d _
  · have hsent : s.dropTransmitted d = s.copySent d n := by simp only [State.dropTransmitted, hcopy]
    rw [exec_running hrun, effectOf, hsent]
    exact ⟨_, rfl, s.copySent_spec d n⟩
  · have haborted : s.transmitStalled d = s.updLine d (Line.abort true) := by
      refine if_pos ?_
      have hreached : decide (Config.stallEpochs ≤ (s.drop d).line.transmitStall) = true := decide_eq_true hstall
      rw [hclocking, Option.isSome_iff_ne_none.mpr hsending, hreached]
      rfl
    rw [exec_running hrun, effectOf, haborted]
    obtain ⟨t, ht, honly, hdrop⟩ := s.updLine_answer d (Line.abort true)
    rw [Line.abort_of_sending hsending] at hdrop
    exact ⟨t, ht, honly, hdrop⟩

/-- Settles O26. -/
theorem intakeServesInTurn : Obligations.IntakeServesInTurn := by
  intro s d r n hrun hfree hn hle hd hfull hempty
  have hserved : s.nextServed = some d :=
    State.nextServed_eq hn hle hd (by rw [hfull]; exact Option.some_ne_none r) hempty
  have htaken : s.intakeTake =
      (s.setIntake { lastServed := d, inProcess := some { source := d, packet := r } }).updLine d
        (fun l => { l with holding := none, wait := false }) := by
    simp only [State.intakeTake, hfree, hserved, hfull]
  have hdrop (e : DropId) := (s.setIntake { lastServed := d, inProcess := some { source := d, packet := r } }).drop_updLine
    d e (fun l => { l with holding := none, wait := false })
  rw [exec_running hrun, effectOf, htaken]
  exact ⟨_, rfl, rfl, fun e he => (hdrop e).trans (if_neg he), (hdrop d).trans (if_pos rfl)⟩
end

section
/-! SUPPORT. The house clock at an epoch and at a house boundary event (R1, R5), the report gate (R183, R184), and what a
TIME arrival does in each tracker state (R17 to R42). Causes latched one after another are told as one list, so that each
arrival is one update of the state. -/

namespace Sys2Proof.Machine

/- One proof after another: a thread for each would take more memory than a check has. -/
set_option Elab.async false

/-! ## Causes latched one after another (R181) -/

/-- The causes of a list latched, the last one first, with no drop named. -/
def ReportUnit.latchAll (cs : List Cause) (r : ReportUnit) : ReportUnit :=
  cs.foldr (fun c r => { r with latches := r.latches.set c.index.val (r.latches[c.index.val].add none) }) r

theorem ReportUnit.latchAll_append (cs cs' : List Cause) (r : ReportUnit) :
    r.latchAll (cs ++ cs') = (r.latchAll cs').latchAll cs := List.foldr_append

theorem LatchedExactly.of_same {s t : State} (d : Option DropId) (h : t.reports = s.reports) : LatchedExactly [] d s t := by
  refine ⟨by rw [h], fun c => ?_⟩
  simp only [List.not_mem_nil, if_false, State.latchOf, h]

/-- One more cause is latched, one that was not. -/
theorem LatchedExactly.cons {cs : List Cause} {d : Option DropId} {s t : State} (h : LatchedExactly cs d s t) {c : Cause}
    (hc : c ∉ cs) : LatchedExactly (c :: cs) d s (t.latch c d) := by
  obtain ⟨hreports, hcauses⟩ := h
  obtain ⟨hreports', hcauses'⟩ := t.latch_spec c d
  refine ⟨by rw [hreports', hreports], fun c' => ?_⟩
  have hbefore := hcauses c'
  have hafter := hcauses' c'
  by_cases hc' : c' = c
  · subst hc'
    rw [if_neg hc] at hbefore
    rw [if_pos (List.mem_singleton_self _), hbefore] at hafter
    rw [if_pos List.mem_cons_self]
    exact hafter
  · rw [if_neg (mt List.mem_singleton.mp hc')] at hafter
    rw [hafter]
    simpa only [List.mem_cons, hc', false_or] using hbefore

theorem LatchedExactly.congr {cs cs' : List Cause} {d : Option DropId} {s t : State} (h : LatchedExactly cs d s t)
    (hcs : ∀ c, c ∈ cs' ↔ c ∈ cs) : LatchedExactly cs' d s t := by
  obtain ⟨hreports, hcauses⟩ := h
  exact ⟨hreports, fun c => by simpa only [hcs c] using hcauses c⟩

/-- Distinct causes, latched as one list. -/
theorem LatchedExactly.of_latchAll {cs : List Cause} {s t : State} (hnodup : cs.Nodup)
    (h : t.reports = s.reports.latchAll cs) : LatchedExactly cs none s t := by
  induction cs generalizing t with
  | nil => exact .of_same none h
  | cons c cs ih =>
    obtain ⟨hc, hnodup⟩ := List.nodup_cons.mp hnodup
    have hrest : LatchedExactly cs none s (s.setReports (s.reports.latchAll cs)) := ih hnodup rfl
    have hlatched := hrest.cons hc
    have hreports : t.reports = ((s.setReports (s.reports.latchAll cs)).latch c none).reports := h
    simpa only [LatchedExactly, State.latchOf, hreports] using hlatched

/-! ## The house clock (R1, R20, R87, R94) -/

theorem Drop.countStalls_of_device {x : Drop} (h : x.profile.clocking = .device) :
    (x.line.shift = .receiving → x.countStalls.line.receiveStall = min 48 (x.line.receiveStall + 1))
    ∧ (x.line.transmission ≠ none → x.countStalls.line.transmitStall = min 48 (x.line.transmitStall + 1)) := by
  refine ⟨fun hshift => ?_, fun hsending => ?_⟩
  · exact if_pos (by rw [h, hshift]; rfl)
  · exact if_pos (by rw [h, Option.isSome_iff_ne_none.mpr hsending]; rfl)

theorem State.epoch_tracker (s : State) :
    s.epoch.tracker = if s.tracker.hold = true then s.tracker else { s.tracker with
      missingTime := min 1048575 (s.tracker.missingTime + 1),
      expiryDue := s.tracker.expiryDue || decide (s.part.lMiss * (s.house.rate.period / 4000)
        ≤ min 1048575 (s.tracker.missingTime + 1)) } := by
  have hcount : s.epoch.tracker = (s.setClock s.clock.advance).countMissingTime.tracker := rfl
  rw [hcount, State.countMissingTime]
  by_cases hhold : s.tracker.hold = true
  · rw [if_pos hhold]
    exact (congrArg State.tracker (if_pos hhold)).trans rfl
  · rw [if_neg hhold]
    exact (congrArg State.tracker (if_neg hhold)).trans rfl

theorem State.epoch_eq (s : State) :
    s.epoch = { s with clock := s.clock.advance, tracker := s.epoch.tracker, drops := s.epoch.drops } := by
  have hcount := (s.setClock s.clock.advance).countMissingTime_touches
  have hstays : (s.setClock s.clock.advance).countMissingTime =
      (s.setClock s.clock.advance).setTracker (s.setClock s.clock.advance).countMissingTime.tracker := by
    unfold State.countMissingTime
    split <;> rfl
  unfold State.epoch
  generalize (s.setClock s.clock.advance).countMissingTime = u at hstays
  rw [hstays]
  rfl

/-! ## House boundary events (R5, R7, R184) -/

theorem Quality.code_worse (x y : Quality) : (x.worse y).code = max x.code y.code := by
  unfold Quality.worse
  split <;> omega

theorem Rate.period_pos (r : Rate) : 0 < r.period := by cases r <;> decide

theorem Rate.nextMultiple_spec (r : Rate) (h : Nat) :
    r.period ∣ r.nextMultiple h ∧ h < r.nextMultiple h ∧ r.nextMultiple h ≤ h + r.period := by
  have hpos := r.period_pos
  have hdiv := Nat.div_add_mod h r.period
  have hmod := Nat.mod_lt h hpos
  have hnext : r.nextMultiple h = r.period * (h / r.period) + r.period := by
    unfold Rate.nextMultiple
    rw [Nat.add_mul, Nat.one_mul, Nat.mul_comm]
  rw [hnext]
  exact ⟨⟨h / r.period + 1, by rw [Nat.mul_add, Nat.mul_one]⟩, by omega, by omega⟩

theorem State.countHoldoff_eq (s : State) :
    s.countHoldoff = s.setReports (if s.reports.timerRunning = true then { s.reports with
      timerCount := min 255 (s.reports.timerCount + 1),
      expiryDue := s.reports.expiryDue || decide (s.part.holdoff ≤ min 255 (s.reports.timerCount + 1)) }
      else s.reports) := by
  unfold State.countHoldoff
  split <;> rfl

theorem State.regeneratedHop_eq (s : State) :
    s.regeneratedHop =
      if s.tracker.state = .acquire ∨ s.clock.anyArrival = false then 1 else s.clock.receivedHop + 1 :=
  if_congr (by simp) rfl rfl

/-! ## The report gate (R183) -/

theorem State.chosenCause_eq {s : State} {c : Cause} (h : s.eligible c = true)
    (hfirst : ∀ c' : Cause, c'.code < c.code → s.eligible c' = false) : s.chosenCause = some c := by
  have hmem : c ∈ allCauses := by cases c <;> decide
  have hsorted : allCauses.Pairwise (fun x y => x.code < y.code) := by decide
  obtain ⟨before, after, hsplit⟩ := List.append_of_mem hmem
  rw [State.chosenCause, hsplit]
  rw [hsplit] at hsorted
  refine List.find?_eq_some_iff_append.mpr ⟨h, before, after, rfl, fun x hx => ?_⟩
  have hlt : x.code < c.code := (List.pairwise_append.mp hsorted).2.2 x hx c List.mem_cons_self
  rw [hfirst x hlt]
  rfl

end Sys2Proof.Machine

open Sys2Proof Sys2Proof.Machine

/-- Settles O6. -/
theorem epochAdvancesHouseClock : Obligations.EpochAdvancesHouseClock := by
  intro s hrun hf hlow hhigh hend
  have htracker := s.epoch_tracker
  have hclock := s.epoch_clock
  refine ⟨s.epoch, exec_epoch_running hrun, ?_, ?_, ?_, ?_, fun hhold => ?_, fun hhold => ?_, fun d => ?_⟩
  · rw [hclock]
    exact s.epoch_eq
  · rw [hclock]
    rfl
  · rw [hclock]
    exact Clock.advance_exact hf hlow hhigh hend
  · rw [hclock]
    exact s.clock.advance_fraction_lt
  · rw [htracker, if_pos hhold]
  · rw [htracker, if_neg (hhold ▸ Bool.false_ne_true)]
  · have hdrop : s.epoch.drop d = (s.drop d).countStalls := s.drop_epoch d
    rw [hdrop]
    exact ⟨rfl, fun hdevice => (Drop.countStalls_of_device hdevice).1,
      fun hdevice => (Drop.countStalls_of_device hdevice).2⟩

/-- Settles O8. -/
theorem houseBoundaryEvent : Obligations.HouseBoundaryEvent := by
  intro s hrun hreached
  obtain ⟨hmultiple, habove, hfirst⟩ := (s.house.pendingRate.getD s.house.rate).nextMultiple_spec s.clock.time
  have hevent : exec .houseBoundaryEvent s = .next s.houseBoundary :=
    (exec_running hrun).trans (congrArg _ (if_pos hreached))
  rw [hevent, State.houseBoundary, State.countHoldoff_eq]
  refine ⟨_, rfl, rfl, rfl, rfl, hmultiple, habove, hfirst, ⟨s.partQuality, Quality.code_worse _ _, ?_⟩,
    fun hstopped => ?_, fun hruns => ?_⟩
  · rw [← State.regeneratedHop_eq]
    rfl
  · exact if_neg (hstopped ▸ Bool.false_ne_true)
  · rw [if_pos hruns]
    refine ⟨rfl, fun hdue => ?_, fun hearly => ?_⟩
    · show (s.reports.expiryDue || decide (s.part.holdoff ≤ min 255 (s.reports.timerCount + 1))) = true
      rw [decide_eq_true hdue, Bool.or_true]
    · show (s.reports.expiryDue || decide (s.part.holdoff ≤ min 255 (s.reports.timerCount + 1))) = s.reports.expiryDue
      rw [decide_eq_false (Nat.not_le.mpr hearly), Bool.or_false]

/-- Settles O59. -/
theorem reportsThroughGate : Obligations.ReportsThroughGate := by
  refine ⟨fun s c hrun hopen hslot heligible hfirst => ?_, fun s hrun hruns hdue => ?_⟩
  · have hemits : s.reportEmission = s.emit c := by
      simp only [State.reportEmission, hopen, hslot, Option.isNone_none, Bool.and_self, if_true,
        State.chosenCause_eq heligible hfirst]
    rw [exec_running hrun, effectOf, hemits]
    refine ⟨_, rfl, rfl, ?_, fun c' hc' => ?_⟩
    · simp only [State.emit, State.latchOf, State.setReports_reports, Vector.getElem_set_self]
      rfl
    · have hindex : c.index.val ≠ c'.index.val := fun h => hc' (Cause.index_injective (Fin.ext h.symm))
      simp only [State.emit, State.latchOf, State.setReports_reports]
      exact Vector.getElem_set_ne _ _ hindex
  · rw [exec_running hrun]
    exact congrArg _ (if_pos (by rw [hruns, hdue]; rfl))
end

section
/-! SUPPORT. What a TIME arrival does (R17 to R42). What it hands over is one update of the state; each tracker state's rule
is one more, told with the causes it latches. -/

namespace Sys2Proof.Machine

/- One proof after another: a thread for each would take more memory than a check has. -/
set_option Elab.async false

/-! ## What every arrival hands over (R17) -/

theorem State.handRate_eq (s : State) (code : Nat) :
    s.handRate code = s.setHouse { s.house with
      pendingRate := match Rate.ofCode code with
        | some r => some r
        | none => s.house.pendingRate } := by
  unfold State.handRate
  cases Rate.ofCode code <;> rfl

theorem State.handQuality_eq (s : State) (q : Quality) :
    s.handQuality q =
      (s.setTracker { s.tracker with upstream := if s.tracker.hold = true then s.tracker.upstream else q }).setReports
        (s.reports.latchAll (if s.tracker.hold = true ∨ s.tracker.upstream = q then [] else [.qualityChange])) := by
  unfold State.handQuality
  by_cases hhold : s.tracker.hold = true
  · rw [if_pos hhold, if_pos hhold, if_pos (.inl hhold)]
    rfl
  · by_cases hsame : s.tracker.upstream = q
    · have heither : s.tracker.hold = true ∨ s.tracker.upstream = q := .inr hsame
      rw [if_neg hhold, if_neg hhold, if_pos heither]
      exact if_pos hsame
    · rw [if_neg hhold, if_neg hhold, if_neg (not_or_intro hhold hsame)]
      exact if_neg hsame

theorem State.handOverTime_received (s : State) (words : List Word) :
    (s.received .a).handOverTime words =
      (s.afterTime words).setReports (s.reports.latchAll (s.qualityCauses words)) := by
  unfold State.handOverTime
  dsimp only
  rw [State.handRate_eq, State.handQuality_eq]
  rfl

/-- A valid TIME packet on side A is a TIME arrival. -/
theorem State.TimeIn.exec_arrival {s : State} {words : List Word} (h : s.TimeIn words) :
    exec (.trunkPacketComplete .a words) s =
      .next ((s.received .a).timeArrival words s.trunk.sideA.receiver.capture) := by
  have hclassify : (s.received .a).classify .a words (s.port .a).receiver.capture =
      (s.received .a).timeArrival words s.trunk.sideA.receiver.capture := by
    simp only [State.classify, h.kind, State.timePacketOnA, if_neg (Nat.ne_of_lt h.hop)]
    rfl
  rw [h.toPacketIn.exec_wellFormed h.check h.header, hclassify]

/-- An arrival of UNREFERENCED quality, or under HOLD, only hands over. -/
theorem State.TimeIn.exec_undisciplining {s : State} {words : List Word} (h : s.TimeIn words)
    (hnot : s.tracker.hold = true ∨ timeQuality words = .unreferenced) :
    exec (.trunkPacketComplete .a words) s =
      .next ((s.afterTime words).setReports (s.reports.latchAll (s.qualityCauses words))) := by
  rw [h.exec_arrival, ← State.handOverTime_received]
  refine congrArg _ (if_pos ?_)
  rw [Bool.or_eq_true, decide_eq_true_eq]
  exact hnot.symm

/-- A disciplining arrival takes an expiry first, hands over, and is disciplined by its error. -/
theorem State.TimeIn.exec_disciplining {s : State} {words : List Word} (h : s.TimeIn words) (hhold : s.tracker.hold = false)
    (hquality : timeQuality words ≠ .unreferenced) :
    exec (.trunkPacketComplete .a words) s =
      .next (((s.received .a).missingTimeExpiry.handOverTime words).discipline
        (arrivalError s.part (timeOfPayload (trunkPayload words)) s.trunk.sideA.receiver.capture)) := by
  rw [h.exec_arrival]
  refine congrArg _ (if_neg ?_)
  rw [Bool.or_eq_true, decide_eq_true_eq]
  rintro (hunreferenced | hheld)
  · exact hquality hunreferenced
  · exact Bool.false_ne_true (hhold.symm.trans hheld)

/-- The state that a disciplining arrival finds. -/
def State.handedOver (s : State) (words : List Word) : State :=
  (s.afterTime words).setReports (s.reports.latchAll (s.qualityCauses words))

theorem State.Disciplines.exec_disciplined {s : State} {words : List Word} {e : Int} (h : s.Disciplines words e) :
    exec (.trunkPacketComplete .a words) s = .next ((s.handedOver words).discipline e) := by
  have hsettled : ¬ (s.received .a).ExpiryActs := h.settled
  rw [h.toTimeIn.exec_disciplining h.hold h.referenced, State.missingTimeExpiry_of_settled hsettled,
    State.handOverTime_received, h.error]
  rfl

/-! ## The missing-TIME expiry (R20, R30) -/

theorem State.ExpiryActs.due {s : State} (h : s.ExpiryActs) :
    (s.tracker.expiryDue && s.tracker.state.actsOnExpiry) = true := by
  obtain ⟨hdue, hstate⟩ := h
  rcases hstate with hs | hs | hs <;> rw [hdue, hs] <;> rfl

theorem State.latchLockLost_eq (s : State) (old : TrackerState) :
    s.latchLockLost old = s.setReports (s.reports.latchAll (if old = .locked then [.lockLost] else [])) := by
  unfold State.latchLockLost
  split <;> rfl

/-- The tracker loses its TIME: FREEWHEEL, and the causes latched. -/
theorem State.ExpiryActs.missingTimeExpiry_eq {s : State} (h : s.ExpiryActs) :
    s.missingTimeExpiry =
      s.enterFreewheel.setReports (s.reports.latchAll (s.lockLost ++ [.refLost])) := by
  have hacts : s.missingTimeExpiry = (s.enterFreewheel.latch .refLost none).latchLockLost s.tracker.state := if_pos h.due
  rw [hacts, State.latchLockLost_eq, ReportUnit.latchAll_append]
  rfl

/-- Counting a packet in changes nothing that an expiry reads. -/
theorem State.ExpiryActs.missingTimeExpiry_received {s : State} (h : s.ExpiryActs) :
    (s.received .a).missingTimeExpiry = s.missingTimeExpiry.received .a := by
  have hreceived : (s.received .a).ExpiryActs := h
  rw [hreceived.missingTimeExpiry_eq, h.missingTimeExpiry_eq]
  rfl

/-! ## Jams (R11, R34, R35) -/

theorem Drop.enabled_line_iff (x : Drop) : x.line.enabled = true ↔ ¬ x.line.state = .disabled := x.line.enabled_iff

theorem Drop.reached_jamReaches (old new : Nat) (x : Drop) : JamReaches old new x (x.reached old new) := by
  have hidle (h : x.take.state = .idle) : x.take.rebase ((new : Int) - old) = x.take := by
    unfold Take.rebase
    rw [h]
    rfl
  have hrolling (h : x.take.state = .rolling) : x.take.rebase ((new : Int) - old) = { x.take with
      rollTime := ((x.take.rollTime : Int) + ((new : Int) - old)).toNat, rebased := true } := by
    have hnat : (max 0 ((x.take.rollTime : Int) + ((new : Int) - old))).toNat =
        ((x.take.rollTime : Int) + ((new : Int) - old)).toNat := by omega
    unfold Take.rebase
    rw [if_pos (beq_iff_eq.mpr h), hnat]
  unfold JamReaches Drop.reached
  by_cases hdisabled : x.line.state = .disabled
  · have hjammed : x.jammed old new ((new : Int) - old) = x :=
      if_neg (mt x.enabled_line_iff.mp (not_not_intro hdisabled))
    rw [hjammed]
    exact ⟨rfl, rfl, fun _ => ⟨rfl, rfl⟩, fun henabled => absurd hdisabled henabled, hidle, hrolling⟩
  · have hjammed : x.jammed old new ((new : Int) - old) = _ := if_pos (x.enabled_line_iff.mpr hdisabled)
    rw [hjammed]
    refine ⟨rfl, rfl, fun h => absurd h hdisabled, fun _ => ⟨_, _, rfl, rfl, rfl, ?_⟩, hidle, hrolling⟩
    unfold DfLine.jammed
    cases x.df.pulseEnd <;> rfl

theorem jammedTime_eq {time : Nat} {e : Int} {h : Nat} (hh : (h : Int) = max 0 (time + e)) (hlt : h < 2 ^ 64) :
    jammedTime time e = h := by
  unfold jammedTime
  split
  next hneg => omega
  next hpos =>
    have hnat : ((time : Int) + e).toNat = h := by omega
    rw [hnat]
    exact houseTimeOf_of_lt hlt

/-- The tracker after a disciplining arrival has been taken: the timer restarted and the first-arrival flag clear. -/
def Tracker.rearmed (t : Tracker) : Tracker := { t with missingTime := 0, expiryDue := false, firstArrival := false }

/-- The error of an arrival is recorded (R18). -/
def State.recorded (s : State) (e : Int) : State := s.setTracker { s.tracker with lastError := e }

theorem State.discipline_eq (s : State) (e : Int) :
    s.discipline e = ((s.recorded e).arriveByState e).setTracker ((s.recorded e).arriveByState e).tracker.rearmed := rfl

/-- A jam and the causes it latches. -/
theorem State.jam_eq_latchAll (s : State) (e : Int) :
    s.jam e = (s.jamUnlatched e).setReports (s.reports.latchAll (s.lockLost ++ [.timeStep])) := by
  rw [State.jam_eq, State.latchLockLost_eq, ReportUnit.latchAll_append]
  rfl

/-- What a jam does to a state does not depend on its tracker's counts, which it clears. -/
theorem State.jam_of_counts (s : State) (e : Int) (n m : Nat) :
    (s.setTracker { s.tracker with outlierCount := n, lockCount := m }).jam e = s.jam e := by
  rw [State.jam_eq_latchAll, State.jam_eq_latchAll]
  rfl

/-- The tracker has counted an outlier: under TRACK the lock count is clear (R28, R29). -/
def State.outlierCounted (s : State) : State :=
  s.setTracker { s.tracker with
    outlierCount := satInc 255 s.tracker.outlierCount,
    lockCount := if s.tracker.state = .track then 0 else s.tracker.lockCount }

/-- An outlier of TRACK or LOCKED is counted, and N_out of them bring the step decision (R28, R29). -/
theorem State.arriveByState_of_outlier {s : State} {e : Int} (hforce : s.tracker.forceJam = false)
    (hstate : s.tracker.state = .track ∨ s.tracker.state = .locked) (hwindows : s.part.lockWindow ≤ s.part.stepThreshold)
    (hout : s.part.stepThreshold < e.natAbs) :
    s.arriveByState e = if s.part.nOut ≤ min 255 (s.tracker.outlierCount + 1) then s.outlierCounted.stepDecision e
      else s.outlierCounted := by
  have hlock : ¬ e.natAbs ≤ s.part.lockWindow := by omega
  have hstep : ¬ e.natAbs ≤ s.part.stepThreshold := by omega
  rcases hstate with hs | hs
  · simp only [State.arriveByState, hforce, hs, Bool.false_eq_true, if_false, State.arriveTrack, hlock, hstep,
      State.outlierCounted, if_true]
    rfl
  · simp only [State.arriveByState, hforce, hs, Bool.false_eq_true, if_false, State.arriveLocked, hlock, hstep,
      State.outlierCounted, reduceCtorEq]
    rfl

theorem State.stepDecision_of_unguarded {s : State} (h : ¬ s.Guarded) (e : Int) : s.stepDecision e = s.jam e := by
  refine if_pos ?_
  rw [Bool.or_eq_true, decide_eq_true_eq, Bool.not_eq_true']
  by_cases hpolicy : s.part.jamPolicy = .always
  · exact .inl hpolicy
  · refine .inr (Bool.eq_false_of_not_eq_true fun hguard => h ⟨?_, hguard⟩)
    cases hp : s.part.jamPolicy with
    | guarded => rfl
    | always => exact absurd hp hpolicy

/-- The step decision under the guard enters SLEW (R31). -/
def State.slewing (s : State) (e : Int) : State :=
  ((s.enterState .slew).slewBy e).setReports (s.reports.latchAll (s.lockLost ++ [.slewBegin]))

theorem State.stepDecision_of_guarded {s : State} (h : s.Guarded) (e : Int) : s.stepDecision e = s.slewing e := by
  obtain ⟨hpolicy, hguard⟩ := h
  have hslews : s.stepDecision e =
      (((s.enterState .slew).slewBy e).latch .slewBegin none).latchLockLost s.tracker.state := by
    refine if_neg ?_
    rw [hpolicy, hguard]
    exact Bool.false_ne_true
  rw [hslews, State.latchLockLost_eq, State.slewing, ReportUnit.latchAll_append]
  rfl

/-- The step decision falls due in FREEWHEEL, and with the outliers of TRACK and LOCKED counted (R28, R29, R33). -/
theorem State.arriveByState_of_stepDue {s : State} {e : Int} (hforce : s.tracker.forceJam = false)
    (hwindows : s.part.lockWindow ≤ s.part.stepThreshold) (hdue : s.StepDue e) :
    s.arriveByState e = (if s.tracker.state = .freewheel then s else s.outlierCounted).stepDecision e := by
  obtain ⟨hout, hstate⟩ := hdue
  rcases hstate with hfreewheel | ⟨htracking, hcount⟩
  · have hstep : ¬ e.natAbs ≤ s.part.stepThreshold := by omega
    simp only [State.arriveByState, hforce, hfreewheel, Bool.false_eq_true, if_false, State.arriveFreewheel, hstep, if_true]
  · have hnot : ¬ s.tracker.state = .freewheel := by
      rcases htracking with hs | hs <;> rw [hs] <;> exact nofun
    rw [State.arriveByState_of_outlier hforce htracking hwindows hout, if_pos hcount, if_neg hnot]

/-- Every arrival that jams does what `jamFrom` does. -/
theorem State.arriveByState_of_jams {s : State} {e : Int} (hwindows : s.part.lockWindow ≤ s.part.stepThreshold)
    (h : s.Jams e) : s.arriveByState e = s.jamFrom e := by
  by_cases hforce : s.tracker.forceJam = true
  · exact if_pos hforce
  have hnoForce : s.tracker.forceJam = false := Bool.eq_false_of_not_eq_true hforce
  have hjamFrom (hnot : s.tracker.state ≠ .slew) : s.jamFrom e = s.jam e := if_neg hnot
  rcases h with hforced | hacquire | ⟨hunguarded, hdue | ⟨hslew, hout⟩⟩
  · exact absurd hforced hforce
  · rw [hjamFrom (hacquire ▸ nofun)]
    simp only [State.arriveByState, hnoForce, hacquire, Bool.false_eq_true, if_false]
  · have hnot : s.tracker.state ≠ .slew := by
      rcases hdue.2 with hs | ⟨hs | hs, -⟩ <;> rw [hs] <;> exact nofun
    rw [State.arriveByState_of_stepDue hnoForce hwindows hdue, hjamFrom hnot]
    split
    · exact State.stepDecision_of_unguarded hunguarded e
    · have hcounted : ¬ s.outlierCounted.Guarded := hunguarded
      rw [State.stepDecision_of_unguarded hcounted]
      exact s.jam_of_counts e _ _
  · have hlock : ¬ e.natAbs ≤ s.part.lockWindow := by omega
    have hstep : ¬ e.natAbs ≤ s.part.stepThreshold := by omega
    have hguard : ¬ (decide (s.part.jamPolicy = .guarded) && s.tracker.guardFlag) = true := by
      rw [Bool.and_eq_true, decide_eq_true_eq]
      exact hunguarded
    simp only [State.arriveByState, hnoForce, hslew, Bool.false_eq_true, if_false, State.arriveSlew, hlock, hstep]
    exact if_neg hguard

/-! ## Loop updates (R24) -/

/-- A loop update that leads to TRACK (R29, R32, R33). -/
theorem State.loopToTrack_eq (s : State) (e : Int) :
    s.loopToTrack e = ((s.loopUpdate e).enterState .track).setReports (s.reports.latchAll s.lockLost) := by
  rw [State.loopToTrack, State.latchLockLost_eq]
  rfl

/-- Beyond the lock window, and in SLEW within it, a loop update leads to TRACK. -/
theorem State.arriveByState_of_loopToTrack {s : State} {e : Int} (hforce : s.tracker.forceJam = false)
    (h : ((s.tracker.state = .track ∨ s.tracker.state = .locked) ∧ s.part.lockWindow < e.natAbs
        ∧ e.natAbs ≤ s.part.stepThreshold)
      ∨ (s.tracker.state = .freewheel ∧ e.natAbs ≤ s.part.stepThreshold)
      ∨ (s.tracker.state = .slew ∧ e.natAbs ≤ s.part.lockWindow)) : s.arriveByState e = s.loopToTrack e := by
  rcases h with ⟨hs | hs, hlock, hstep⟩ | ⟨hs, hstep⟩ | ⟨hs, hlock⟩
  · simp only [State.arriveByState, hforce, hs, Bool.false_eq_true, if_false, State.arriveTrack, Nat.not_le.mpr hlock,
      hstep, if_true]
  · simp only [State.arriveByState, hforce, hs, Bool.false_eq_true, if_false, State.arriveLocked, Nat.not_le.mpr hlock,
      hstep, if_true]
  · simp only [State.arriveByState, hforce, hs, Bool.false_eq_true, if_false, State.arriveFreewheel, hstep, if_true]
  · simp only [State.arriveByState, hforce, hs, Bool.false_eq_true, if_false, State.arriveSlew, hlock, if_true]

/-- Within the lock window TRACK and LOCKED count, and a TRACK that has counted N_lock is LOCKED (R28, R29). -/
theorem State.arriveByState_of_counts {s : State} {e : Int} (hforce : s.tracker.forceJam = false)
    (hstate : s.tracker.state = .track ∨ s.tracker.state = .locked) (hlock : e.natAbs ≤ s.part.lockWindow) {gained : Bool}
    (hgained : gained = true ↔ s.tracker.state = .track ∧ s.part.nLock ≤ min 255 (s.tracker.lockCount + 1)) :
    s.arriveByState e = ((s.loopUpdate e).setTracker { (s.loopUpdate e).tracker with
        state := if gained = true ∨ s.tracker.state = .locked then .locked else .track,
        lockCount := min 255 (s.tracker.lockCount + 1), outlierCount := 0 }).setReports
      (s.reports.latchAll (if gained = true then [.lockGained] else [])) := by
  rcases hstate with hs | hs
  · have hcounted : s.arriveByState e =
        if s.part.nLock ≤ min 255 (s.tracker.lockCount + 1) then
          ((s.loopUpdate e).setTracker { (s.loopUpdate e).tracker with
            state := .locked, lockCount := min 255 (s.tracker.lockCount + 1), outlierCount := 0 }).latch .lockGained none
        else (s.loopUpdate e).setTracker { (s.loopUpdate e).tracker with
            lockCount := min 255 (s.tracker.lockCount + 1), outlierCount := 0 } := by
      simp only [State.arriveByState, hforce, hs, Bool.false_eq_true, if_false, State.arriveTrack, hlock, if_true]
      rfl
    rw [hcounted]
    by_cases hreached : s.part.nLock ≤ min 255 (s.tracker.lockCount + 1)
    · rw [if_pos hreached, hgained.mpr ⟨hs, hreached⟩]
      rfl
    · have hnot : gained = false := Bool.eq_false_of_not_eq_true fun h => hreached (hgained.mp h).2
      have hstays : (if gained = true ∨ s.tracker.state = .locked then TrackerState.locked else .track) =
          s.tracker.state := by
        rw [hnot, hs]
        rfl
      rw [if_neg hreached, hstays, hnot]
      rfl
  · have hnot : gained = false := Bool.eq_false_of_not_eq_true fun h => by
      have htrack := (hgained.mp h).1
      rw [hs] at htrack
      cases htrack
    have hstays : (if gained = true ∨ s.tracker.state = .locked then TrackerState.locked else .track) =
        s.tracker.state := by
      rw [hnot, hs]
      rfl
    have hcounted : s.arriveByState e = (s.loopUpdate e).setTracker { (s.loopUpdate e).tracker with
        lockCount := min 255 (s.tracker.lockCount + 1), outlierCount := 0 } := by
      simp only [State.arriveByState, hforce, hs, Bool.false_eq_true, if_false, State.arriveLocked, hlock, if_true]
      rfl
    rw [hcounted, hstays, hnot]
    rfl

theorem loopDrift_eq (p : PartRecord) (a q : Int) :
    loopDrift p a q = max (-6710886) (min 6710886 (a + Int.tdiv q (2 ^ p.intShift))) := by
  unfold loopDrift limitAbs
  rw [Nat.cast_pow]
  rfl

theorem loopCorrection_eq (p : PartRecord) (a q : Int) :
    loopCorrection p a q = max (-6710886) (min 6710886 (a + Int.tdiv q (2 ^ p.propShift))) := by
  unfold loopCorrection limitAbs
  rw [Nat.cast_pow]
  rfl

/-- The numbers of a loop update (R21, R24). -/
theorem State.loopUpdate_eq {s : State} {e q a c : Int} {n : Nat}
    (hn : n = (if s.tracker.firstArrival = true then s.house.rate.period / 4000
      else max 1 (min 65535 s.tracker.missingTime)))
    (hq : q = max (-2147483647) (min 2147483647 (Int.tdiv (e * 16777216) n)))
    (ha : a = max (-6710886) (min 6710886 (s.tracker.drift + Int.tdiv q (2 ^ s.part.intShift))))
    (hc : c = max (-6710886) (min 6710886 (a + Int.tdiv q (2 ^ s.part.propShift)))) :
    s.loopUpdate e = (s.setTracker { s.tracker with drift := a, lastInterval := n }).setCorrection c := by
  have hinterval : s.interval = n := hn.symm
  have hquotient : loopQuotient e n = q := hq.symm
  rw [← loopDrift_eq] at ha
  rw [← loopCorrection_eq] at hc
  unfold State.loopUpdate
  dsimp only
  rw [hinterval, hquotient, ← ha, ← hc]

/-! ## Slewing (R31, R32) -/

theorem State.slewBy_eq (s : State) (e : Int) :
    s.slewBy e = s.setCorrection ((if 0 < e then (1 : Int) else -1) * (s.part.slewPpm * 67108864 / 1000 : Nat)) := by
  unfold State.slewBy
  split
  · rw [Int.one_mul]; rfl
  · rw [Int.neg_one_mul]; rfl

theorem State.arriveByState_of_slewing {s : State} {e : Int} (hforce : s.tracker.forceJam = false)
    (hslew : s.tracker.state = .slew) (hlock : s.part.lockWindow < e.natAbs)
    (hstays : s.Guarded ∨ e.natAbs ≤ s.part.stepThreshold) : s.arriveByState e = s.slewBy e := by
  have hguarded (hg : s.Guarded) : (decide (s.part.jamPolicy = .guarded) && s.tracker.guardFlag) = true := by
    rw [Bool.and_eq_true, decide_eq_true_eq]
    exact hg
  simp only [State.arriveByState, hforce, hslew, Bool.false_eq_true, if_false, State.arriveSlew, Nat.not_le.mpr hlock]
  by_cases hstep : e.natAbs ≤ s.part.stepThreshold
  · rw [if_pos hstep]
  · rw [if_neg hstep]
    exact if_pos (hguarded (hstays.resolve_right hstep))

/-! ## What an arrival under the guard leaves (R31, R32) -/

/-- House time, its fraction, the step count and the drops. -/
def State.houseTimes (s : State) : Nat × Nat × Nat × Vector Drop 8 :=
  (s.clock.time, s.clock.fraction, s.clock.stepCount, s.drops)

theorem State.houseTimes_loopToTrack (s : State) (e : Int) : (s.loopToTrack e).houseTimes = s.houseTimes := by
  rw [State.loopToTrack_eq]
  rfl

theorem State.houseTimes_missingTimeExpiry (s : State) : s.missingTimeExpiry.houseTimes = s.houseTimes := by
  by_cases h : s.ExpiryActs
  · rw [h.missingTimeExpiry_eq]
    rfl
  · rw [State.missingTimeExpiry_of_settled h]

/-- The expiry leaves the guard, a pending jam and ACQUIRE as they are. -/
theorem State.missingTimeExpiry_guard (s : State) :
    s.missingTimeExpiry.part = s.part ∧ s.missingTimeExpiry.tracker.guardFlag = s.tracker.guardFlag
      ∧ s.missingTimeExpiry.tracker.forceJam = s.tracker.forceJam
      ∧ (s.tracker.state ≠ .acquire → s.missingTimeExpiry.tracker.state ≠ .acquire) := by
  by_cases h : s.ExpiryActs
  · rw [h.missingTimeExpiry_eq]
    exact ⟨rfl, rfl, rfl, fun _ => nofun⟩
  · rw [State.missingTimeExpiry_of_settled h]
    exact ⟨rfl, rfl, rfl, id⟩

theorem State.handOverTime_guard (s : State) (words : List Word) :
    (s.handOverTime words).part = s.part ∧ (s.handOverTime words).tracker.guardFlag = s.tracker.guardFlag
      ∧ (s.handOverTime words).tracker.forceJam = s.tracker.forceJam
      ∧ (s.handOverTime words).tracker.state = s.tracker.state ∧ (s.handOverTime words).houseTimes = s.houseTimes := by
  unfold State.handOverTime
  dsimp only
  rw [State.handRate_eq, State.handQuality_eq]
  exact ⟨rfl, rfl, rfl, rfl, rfl⟩

theorem State.houseTimes_arriveByState {s : State} (e : Int) (hguarded : s.Guarded) (hforce : s.tracker.forceJam = false)
    (hacquire : s.tracker.state ≠ .acquire) : (s.arriveByState e).houseTimes = s.houseTimes := by
  have hslews (u : State) (hu : u.Guarded) : (u.stepDecision e).houseTimes = u.houseTimes := by
    rw [State.stepDecision_of_guarded hu, State.slewing, State.slewBy_eq]
    rfl
  have hnone : s.arriveByState e = match s.tracker.state with
      | .acquire => s.jam e
      | .track => s.arriveTrack e
      | .locked => s.arriveLocked e
      | .slew => s.arriveSlew e
      | .freewheel => s.arriveFreewheel e := if_neg (hforce ▸ Bool.false_ne_true)
  rw [hnone]
  cases hs : s.tracker.state with
  | acquire => exact absurd hs hacquire
  | track =>
    unfold State.arriveTrack
    dsimp only
    split
    · split <;> rfl
    split
    · exact s.houseTimes_loopToTrack e
    split
    · exact hslews _ hguarded
    · rfl
  | locked =>
    unfold State.arriveLocked
    dsimp only
    split
    · rfl
    split
    · exact s.houseTimes_loopToTrack e
    split
    · exact hslews _ hguarded
    · rfl
  | slew =>
    have hslewed : (s.slewBy e).houseTimes = s.houseTimes := by
      rw [State.slewBy_eq]
      rfl
    have hguard : (decide (s.part.jamPolicy = .guarded) && s.tracker.guardFlag) = true := by
      rw [Bool.and_eq_true, decide_eq_true_eq]
      exact hguarded
    dsimp only [State.arriveSlew]
    rw [if_pos hguard]
    split
    · exact s.houseTimes_loopToTrack e
    split
    · exact hslewed
    · exact hslewed
  | freewheel =>
    dsimp only [State.arriveFreewheel]
    split
    · exact s.houseTimes_loopToTrack e
    · exact hslews _ hguarded

/-- A jam reaches the clock, the house cadence, the tracker, the drops and the latches. -/
theorem State.jam_frame (u : State) {e : Int} {h : Nat} (hjammed : jammedTime u.clock.time e = h) :
    u.jam e = { u with
      clock := { u.clock with time := h, fraction := 0, stepCount := (u.clock.stepCount + 1) % 65536 },
      house := { u.house with boundary := (h / u.house.rate.period + 1) * u.house.rate.period },
      tracker := { u.tracker with
        state := .track, lockCount := 0, outlierCount := 0, missingTime := 0, expiryDue := false, forceJam := false },
      drops := (u.jam e).drops, reports := (u.jam e).reports } := by
  rw [State.jam_eq_latchAll, ← hjammed]
  rfl

theorem State.lockLost_sublist (s : State) : s.lockLost.Sublist [.lockLost] := by
  unfold State.lockLost
  split
  · exact .refl _
  · exact List.nil_sublist _

theorem State.qualityCauses_sublist (s : State) (words : List Word) : (s.qualityCauses words).Sublist [.qualityChange] := by
  unfold State.qualityCauses
  split
  · exact List.nil_sublist _
  · exact .refl _

theorem State.handedOver_latchAll (s : State) (words : List Word) (cs : List Cause) :
    (s.handedOver words).reports.latchAll cs = s.reports.latchAll (cs ++ s.qualityCauses words) :=
  (ReportUnit.latchAll_append cs _ _).symm

theorem State.qualityCauses_nodup (s : State) (words : List Word) : (s.qualityCauses words).Nodup :=
  .sublist (s.qualityCauses_sublist words) (by decide)

/-! ## Arrivals that neither jam nor run the loop -/

/-- The state that a disciplining arrival of an error leaves, from the one that its tracker state's rule leaves. -/
def State.afterRule (s : State) : State := s.setTracker s.tracker.rearmed

theorem State.Disciplines.exec_slews {s : State} {words : List Word} {e : Int} (hd : s.Disciplines words e)
    (hforce : s.tracker.forceJam = false) (hguarded : s.Guarded) (hdue : s.StepDue e) :
    exec (.trunkPacketComplete .a words) s = .next (((s.handedOver words).recorded e).slewing e).afterRule := by
  rw [hd.exec_disciplined, State.discipline_eq]
  generalize hv : (s.handedOver words).recorded e = v
  have hvdue : v.StepDue e := hv ▸ hdue
  have hvforce : v.tracker.forceJam = false := hv ▸ hforce
  have hvwindows : v.part.lockWindow ≤ v.part.stepThreshold := hv ▸ hd.windows
  have hvguarded : v.Guarded := hv ▸ hguarded
  have hcounted : v.outlierCounted.Guarded := hvguarded
  have hslews : v.arriveByState e = v.slewing e := by
    rw [State.arriveByState_of_stepDue hvforce hvwindows hvdue]
    split
    · exact State.stepDecision_of_guarded hvguarded e
    · rw [State.stepDecision_of_guarded hcounted]
      rfl
  rw [hslews]
  rfl

theorem State.Disciplines.exec_keepsSlewing {s : State} {words : List Word} {e : Int} (hd : s.Disciplines words e)
    (hforce : s.tracker.forceJam = false) (hslew : s.tracker.state = .slew) (hlock : s.part.lockWindow < e.natAbs)
    (hstays : s.Guarded ∨ e.natAbs ≤ s.part.stepThreshold) :
    exec (.trunkPacketComplete .a words) s = .next (((s.handedOver words).recorded e).slewBy e).afterRule := by
  rw [hd.exec_disciplined, State.discipline_eq]
  generalize hv : (s.handedOver words).recorded e = v
  have hvforce : v.tracker.forceJam = false := hv ▸ hforce
  have hvslew : v.tracker.state = .slew := hv ▸ hslew
  have hvlock : v.part.lockWindow < e.natAbs := hv ▸ hlock
  have hvstays : v.Guarded ∨ e.natAbs ≤ v.part.stepThreshold := hv ▸ hstays
  rw [State.arriveByState_of_slewing hvforce hvslew hvlock hvstays]
  rfl

theorem State.Disciplines.exec_countsOutlier {s : State} {words : List Word} {e : Int} (hd : s.Disciplines words e)
    (hforce : s.tracker.forceJam = false) (htracking : s.tracker.state = .track ∨ s.tracker.state = .locked)
    (hout : s.part.stepThreshold < e.natAbs) (hfew : min 255 (s.tracker.outlierCount + 1) < s.part.nOut) :
    exec (.trunkPacketComplete .a words) s = .next ((s.handedOver words).recorded e).outlierCounted.afterRule := by
  rw [hd.exec_disciplined, State.discipline_eq]
  generalize hv : (s.handedOver words).recorded e = v
  have hvforce : v.tracker.forceJam = false := hv ▸ hforce
  have hvtracking : v.tracker.state = .track ∨ v.tracker.state = .locked := hv ▸ htracking
  have hvwindows : v.part.lockWindow ≤ v.part.stepThreshold := hv ▸ hd.windows
  have hvout : v.part.stepThreshold < e.natAbs := hv ▸ hout
  have hvfew : ¬ v.part.nOut ≤ min 255 (v.tracker.outlierCount + 1) := hv ▸ Nat.not_le.mpr hfew
  rw [State.arriveByState_of_outlier hvforce hvtracking hvwindows hvout, if_neg hvfew]
  rfl

theorem State.TimeIn.exec_guarded {s : State} {words : List Word} (hin : s.TimeIn words) (hguarded : s.Guarded)
    (hforce : s.tracker.forceJam = false) (hacquire : s.tracker.state ≠ .acquire) :
    ∃ t, exec (.trunkPacketComplete .a words) s = .next t
      ∧ t.clock.time = s.clock.time ∧ t.clock.fraction = s.clock.fraction
      ∧ t.clock.stepCount = s.clock.stepCount ∧ t.drops = s.drops := by
  by_cases hdisciplines : s.tracker.hold = false ∧ timeQuality words ≠ .unreferenced
  · obtain ⟨hhold, hreferenced⟩ := hdisciplines
    rw [hin.exec_disciplining hhold hreferenced]
    generalize arrivalError _ _ _ = e
    generalize hu : (s.received .a).missingTimeExpiry.handOverTime words = u
    have hguard : u.Guarded ∧ u.tracker.forceJam = false ∧ u.tracker.state ≠ .acquire
        ∧ u.houseTimes = s.houseTimes := by
      obtain ⟨hpart, hflag, hjam, hstate⟩ := (s.received .a).missingTimeExpiry_guard
      obtain ⟨hpart', hflag', hjam', hstate', htimes'⟩ := (s.received .a).missingTimeExpiry.handOverTime_guard words
      have htimes := (s.received .a).houseTimes_missingTimeExpiry
      rw [hu] at hpart' hflag' hjam' hstate' htimes'
      refine ⟨⟨?_, ?_⟩, ?_, ?_, htimes'.trans htimes⟩
      · rw [hpart', hpart]
        exact hguarded.1
      · rw [hflag', hflag]
        exact hguarded.2
      · rw [hjam', hjam]
        exact hforce
      · rw [hstate']
        exact hstate hacquire
    obtain ⟨hg, hf, ha, htimes⟩ := hguard
    have hkept : (u.discipline e).houseTimes = s.houseTimes :=
      (State.houseTimes_arriveByState (s := u.recorded e) e hg hf ha).trans htimes
    simp only [State.houseTimes, Prod.mk.injEq] at hkept
    exact ⟨_, rfl, hkept⟩
  · have hnot : s.tracker.hold = true ∨ timeQuality words = .unreferenced := by
      by_cases hhold : s.tracker.hold = true
      · exact .inl hhold
      · exact .inr (not_not.mp fun hne => hdisciplines ⟨Bool.eq_false_of_not_eq_true hhold, hne⟩)
    rw [hin.exec_undisciplining hnot]
    exact ⟨_, rfl, rfl, rfl, rfl, rfl⟩

end Sys2Proof.Machine

open Sys2Proof Sys2Proof.Machine

/-- Settles O9: counting the packet in changes nothing that the expiry reads, so it may be taken before the packet. -/
theorem missingTimeExpiryFreewheels : Obligations.MissingTimeExpiryFreewheels := by
  intro s hrun h
  have hexpired := h.missingTimeExpiry_eq
  refine ⟨s.missingTimeExpiry, exec_running hrun, ?_, ?_, ?_, ?_, ?_, fun words hin hhold hquality => ?_⟩
  · rw [hexpired]
    rfl
  · have hlatched : LatchedExactly (s.lockLost ++ [.refLost]) none s s.missingTimeExpiry := by
      exact .of_latchAll (.sublist (s.lockLost_sublist.append (.refl _)) (by decide)) (by rw [hexpired]; rfl)
    refine hlatched.congr fun c => ?_
    unfold State.lockLost
    split
    · simp only [List.cons_append, List.nil_append, List.mem_cons, List.not_mem_nil, or_false]
      exact or_comm
    · exact Iff.rfl
  · rw [hexpired]
    rfl
  · rw [hexpired]
    rfl
  · have hworse : s.missingTimeExpiry.partQuality = Quality.freewheel.worse s.tracker.upstream := by
      rw [hexpired]
      rfl
    rw [hworse]
    cases s.tracker.upstream with
    | unreferenced => exact .inr rfl
    | locked | tracking | freewheel => exact .inl rfl
  · have hports : s.missingTimeExpiry.trunk = s.trunk := by
      rw [hexpired]
      rfl
    have hreset : s.missingTimeExpiry.inReset = false := by
      rw [hexpired]
      exact hrun
    have hpart : s.missingTimeExpiry.part = s.part := s.missingTimeExpiry_guard.1
    have hheld : s.missingTimeExpiry.tracker.hold = false := by
      rw [hexpired]
      exact hhold
    have hreceiving : (s.missingTimeExpiry.port .a).receiver.condition = .receiving := by
      unfold State.port
      rw [hports]
      exact hin.receiving
    have hlater : s.missingTimeExpiry.TimeIn words :=
      { running := hreset, receiving := hreceiving, complete := hin.complete, check := hin.check, header := hin.header,
        kind := hin.kind, hop := hin.hop }
    have hsettled : ¬ (s.missingTimeExpiry.received .a).ExpiryActs := s.settled_missingTimeExpiry
    rw [hin.exec_disciplining hhold hquality, hlater.exec_disciplining hheld hquality, h.missingTimeExpiry_received,
      State.missingTimeExpiry_of_settled hsettled, hports, hpart]

/-- Settles O10. -/
theorem acquireArrivalJams : Obligations.AcquireArrivalJams := by
  intro s words e h hd hjams hh hlt
  have hjammed : jammedTime s.clock.time e = h := jammedTime_eq hh hlt
  have hreports (u : State) (hlost : u.lockLost = s.lockLost) (hr : u.reports = (s.handedOver words).reports) :
      (u.jam e).reports = s.reports.latchAll (s.lockLost ++ [.timeStep] ++ s.qualityCauses words) := by
    rw [State.jam_eq_latchAll, hlost, hr, ← State.handedOver_latchAll]
    rfl
  have hdrops (u : State) (htime : u.clock.time = s.clock.time) (hu : u.drops = s.drops) (d : DropId) :
      JamReaches s.clock.time h (s.drop d) ((u.jam e).drop d) := by
    have hdrop : (u.jam e).drop d = (s.drop d).reached s.clock.time h := by
      have hreached := u.jamUnlatched_drop e d
      rw [State.jamTime, htime, hjammed, State.drop_eq_of_drops hu] at hreached
      rw [State.jam_eq_latchAll]
      exact hreached
    rw [hdrop]
    exact Drop.reached_jamReaches _ _ _
  have hlatched (u t : State) (hlost : u.lockLost = s.lockLost) (hr : u.reports = (s.handedOver words).reports)
      (ht : t.reports = (u.jam e).reports) :
      LatchedExactly (.timeStep :: s.lockLost ++ s.qualityCauses words) none s t := by
    have hnodup : (s.lockLost ++ [Cause.timeStep] ++ s.qualityCauses words).Nodup :=
      .sublist ((s.lockLost_sublist.append (.refl _)).append (s.qualityCauses_sublist words)) (by decide)
    refine (LatchedExactly.of_latchAll hnodup (ht.trans (hreports u hlost hr))).congr fun c => ?_
    simp only [List.cons_append, List.mem_cons, List.mem_append, List.not_mem_nil, or_false]
    tauto
  have hjams : ((s.handedOver words).recorded e).Jams e := hjams
  have hwindows : ((s.handedOver words).recorded e).part.lockWindow ≤
      ((s.handedOver words).recorded e).part.stepThreshold := hd.windows
  rw [hd.exec_disciplined, State.discipline_eq, State.arriveByState_of_jams hwindows hjams]
  unfold State.jamFrom
  by_cases hslew : s.tracker.state = .slew
  · have hslewing : ((s.handedOver words).recorded e).tracker.state = .slew := hslew
    rw [if_pos hslewing, if_pos hslew]
    generalize hu : ((s.handedOver words).recorded e).setCorrection ((s.handedOver words).recorded e).tracker.drift = u
    have htime : u.clock.time = s.clock.time := hu ▸ rfl
    have hframe := u.jam_frame (htime ▸ hjammed)
    refine ⟨_, _, rfl, rfl, ?_, hlatched u _ (hu ▸ rfl) (hu ▸ rfl) rfl, hdrops u htime (hu ▸ rfl)⟩
    rw [hframe, ← hu]
    rfl
  · have hslewing : ¬ ((s.handedOver words).recorded e).tracker.state = .slew := hslew
    rw [if_neg hslewing, if_neg hslew]
    generalize hu : (s.handedOver words).recorded e = u
    have htime : u.clock.time = s.clock.time := hu ▸ rfl
    have hframe := u.jam_frame (htime ▸ hjammed)
    refine ⟨_, _, rfl, rfl, ?_, hlatched u _ (hu ▸ rfl) (hu ▸ rfl) rfl, hdrops u htime (hu ▸ rfl)⟩
    rw [hframe, ← hu]
    rfl

/-- Settles O11. -/
theorem lockedArrivalRunsLoop : Obligations.LockedArrivalRunsLoop := by
  intro s words e q a c n counts gained hd hforce hstate hn hq ha hc hcounts hgained
  have hforce : ((s.handedOver words).recorded e).tracker.forceJam = false := hforce
  have hloop : ((s.handedOver words).recorded e).loopUpdate e =
      (((s.handedOver words).recorded e).setTracker { ((s.handedOver words).recorded e).tracker with
        drift := a, lastInterval := n }).setCorrection c := State.loopUpdate_eq hn hq ha hc
  rw [hd.exec_disciplined, State.discipline_eq]
  cases counts with
  | true =>
    obtain ⟨htracking, hlock⟩ := hcounts.mp rfl
    have hgained : gained = true ↔ ((s.handedOver words).recorded e).tracker.state = .track
        ∧ ((s.handedOver words).recorded e).part.nLock ≤
          min 255 (((s.handedOver words).recorded e).tracker.lockCount + 1) := by
      exact ⟨fun h => (hgained.mp h).2, fun h => hgained.mpr ⟨rfl, h⟩⟩
    rw [State.arriveByState_of_counts hforce htracking hlock hgained, hloop]
    refine ⟨_, _, rfl, rfl, ?_, .of_latchAll ?_ ?_⟩
    · simp only [true_and, if_true]
      rfl
    · have hcauses : ((if gained = true then [Cause.lockGained] else []) ++ (if true = true then [] else s.lockLost)
          ++ s.qualityCauses words).Sublist ([Cause.lockGained] ++ [] ++ [Cause.qualityChange]) := by
        refine ((List.Sublist.append ?_ (.refl _)).append (s.qualityCauses_sublist words))
        cases gained with
        | true => exact .refl _
        | false => exact List.nil_sublist _
      exact .sublist hcauses (by decide)
    · simp only [if_true, List.append_nil]
      exact State.handedOver_latchAll s words _
  | false =>
    have hnot : gained = false := Bool.eq_false_of_not_eq_true fun h => Bool.false_ne_true (hgained.mp h).1
    have hbeyond : ¬ ((s.tracker.state = .track ∨ s.tracker.state = .locked) ∧ e.natAbs ≤ s.part.lockWindow) :=
      fun h => Bool.false_ne_true (hcounts.mpr h)
    subst hnot
    have hleads : ((s.handedOver words).recorded e).arriveByState e = ((s.handedOver words).recorded e).loopToTrack e := by
      refine State.arriveByState_of_loopToTrack hforce ?_
      show ((s.tracker.state = .track ∨ s.tracker.state = .locked) ∧ s.part.lockWindow < e.natAbs
          ∧ e.natAbs ≤ s.part.stepThreshold)
        ∨ (s.tracker.state = .freewheel ∧ e.natAbs ≤ s.part.stepThreshold)
        ∨ (s.tracker.state = .slew ∧ e.natAbs ≤ s.part.lockWindow)
      rcases hstate with ⟨hs | hs | hs, hstep⟩ | hslew
      · exact .inl ⟨.inl hs, Nat.lt_of_not_le fun hle => hbeyond ⟨.inl hs, hle⟩, hstep⟩
      · exact .inl ⟨.inr hs, Nat.lt_of_not_le fun hle => hbeyond ⟨.inr hs, hle⟩, hstep⟩
      · exact .inr (.inl ⟨hs, hstep⟩)
      · exact .inr (.inr hslew)
    rw [hleads, State.loopToTrack_eq, hloop]
    refine ⟨_, _, rfl, rfl, ?_, .of_latchAll ?_ ?_⟩
    · simp only [Bool.false_eq_true, false_and, or_self, if_false]
      rfl
    · have hcauses : ([] ++ s.lockLost ++ s.qualityCauses words).Sublist ([] ++ [Cause.lockLost] ++ [Cause.qualityChange]) :=
        ((List.Sublist.refl _).append s.lockLost_sublist).append (s.qualityCauses_sublist words)
      exact .sublist hcauses (by decide)
    · simp only [Bool.false_eq_true, if_false, List.nil_append]
      exact State.handedOver_latchAll s words _

/-- Settles O12. -/
theorem guardedArrivalNeverJams : Obligations.GuardedArrivalNeverJams := by
  refine ⟨fun s words hin hguarded hforce hacquire => ?_, fun s words e c hd hforce hc => ⟨fun hguarded hdue => ?_,
    fun hslew hlock hstays => ?_, fun htracking hout hfew => ?_⟩, fun s words hin hnot => ?_⟩
  · exact hin.exec_guarded hguarded hforce hacquire
  · have hnodup : (s.lockLost ++ [Cause.slewBegin] ++ s.qualityCauses words).Nodup :=
      .sublist ((s.lockLost_sublist.append (.refl _)).append (s.qualityCauses_sublist words)) (by decide)
    have hlatched (t : State) (ht : t.reports = s.reports.latchAll (s.lockLost ++ [.slewBegin] ++ s.qualityCauses words)) :
        LatchedExactly (.slewBegin :: s.lockLost ++ s.qualityCauses words) none s t := by
      refine (LatchedExactly.of_latchAll hnodup ht).congr fun c => ?_
      simp only [List.cons_append, List.mem_cons, List.mem_append, List.not_mem_nil, or_false]
      tauto
    rw [hd.exec_slews hforce hguarded hdue, State.slewing, State.slewBy_eq, hc]
    exact ⟨_, _, rfl, rfl, rfl, hlatched _ (State.handedOver_latchAll s words _)⟩
  · rw [hd.exec_keepsSlewing hforce hslew hlock hstays, State.slewBy_eq, hc]
    exact ⟨_, _, rfl, rfl, rfl, .of_latchAll (s.qualityCauses_nodup words) rfl⟩
  · rw [hd.exec_countsOutlier hforce htracking hout hfew]
    exact ⟨_, _, rfl, rfl, rfl, .of_latchAll (s.qualityCauses_nodup words) rfl⟩
  · rw [hin.exec_undisciplining hnot]
    exact ⟨_, _, rfl, rfl, rfl, .of_latchAll (s.qualityCauses_nodup words) rfl⟩
end

section
/-! SUPPORT. The conversions between house time and drop time (R48, R50, R53): each is the other's least upper solution. -/

namespace Sys2Proof.Machine

/- One proof after another: a thread for each would take more memory than a check has. -/
set_option Elab.async false

/-! ## The rounding of a pull -/

theorem Pull.num_pos (p : Pull) : 0 < p.num := by cases p <;> decide
theorem Pull.den_pos (p : Pull) : 0 < p.den := by cases p <;> decide

theorem ceilDiv_le_iff {a b c : Int} (hb : 0 < b) : ceilDiv a b ≤ c ↔ a ≤ c * b := by
  have hfloor : -c ≤ -a / b ↔ -c * b ≤ -a := Int.le_ediv_iff_mul_le hb
  have hneg : -c * b = -(c * b) := Int.neg_mul c b
  unfold ceilDiv
  omega

/-- G of the inverse conversion: the house time that a drop time stands for, before the offset. -/
def inverseSum (p : Profile) (anchor : Int) (t : Nat) : Int :=
  anchor + ceilDiv (((t : Int) - anchor) * p.pull.den) p.pull.num

/-- A house time whose G has reached the sum reaches the drop time, and one short of it does not. -/
theorem inverseSum_le_iff (p : Profile) (anchor : Int) (t : Nat) (g : Int) :
    inverseSum p anchor t ≤ g ↔ (t : Int) ≤ anchor + (g - anchor) * p.pull.num / p.pull.den := by
  have hceil := ceilDiv_le_iff (a := ((t : Int) - anchor) * p.pull.den) (c := g - anchor) p.pull.num_pos
  have hfloor : (t : Int) - anchor ≤ (g - anchor) * p.pull.num / p.pull.den ↔
      ((t : Int) - anchor) * p.pull.den ≤ (g - anchor) * p.pull.num := Int.le_ediv_iff_mul_le p.pull.den_pos
  unfold inverseSum
  omega

theorem inverse_eq (p : Profile) (anchor : Int) (t : Nat) :
    (inverse p anchor t : Int) = max 0 (inverseSum p anchor t - p.offset) :=
  Int.toNat_of_nonneg (Int.le_max_left _ _)

theorem forward_eq (p : Profile) (anchor : Int) (h : Nat) :
    (forward p anchor h : Int) =
      max 0 (anchor + (max 0 ((h : Int) + p.offset) - anchor) * p.pull.num / p.pull.den) :=
  Int.toNat_of_nonneg (Int.le_max_left _ _)

/-- A drop time above 0 is reached exactly where the sum of its inverse is. -/
theorem le_forward_iff (p : Profile) (anchor : Int) {t : Nat} (ht : 0 < t) (h : Nat) :
    t ≤ forward p anchor h ↔ inverseSum p anchor t ≤ max 0 ((h : Int) + p.offset) := by
  have hforward := forward_eq p anchor h
  have hreached := inverseSum_le_iff p anchor t (max 0 ((h : Int) + p.offset))
  omega

theorem le_forward_inverse (p : Profile) (anchor : Int) (t : Nat) : t ≤ forward p anchor (inverse p anchor t) := by
  rcases Nat.eq_zero_or_pos t with rfl | ht
  · exact Nat.zero_le _
  · rw [le_forward_iff p anchor ht, inverse_eq]
    omega

theorem forward_lt_of_lt_inverse (p : Profile) (anchor : Int) {t h : Nat} (ht : 0 < t)
    (hpos : 0 < (inverse p anchor t : Int) + p.offset) (hlt : h < inverse p anchor t) : forward p anchor h < t := by
  have hinverse := inverse_eq p anchor t
  refine Nat.lt_of_not_le fun hle => ?_
  have hreached := (le_forward_iff p anchor ht h).mp hle
  omega

theorem forward_mono (p : Profile) (anchor : Int) {h k : Nat} (hk : h ≤ k) : forward p anchor h ≤ forward p anchor k := by
  rcases Nat.eq_zero_or_pos (forward p anchor h) with hzero | hpos
  · rw [hzero]
    exact Nat.zero_le _
  · have hreached := (le_forward_iff p anchor hpos h).mp le_rfl
    refine (le_forward_iff p anchor hpos k).mpr ?_
    omega

/-- Below G of 0 the forward conversion does not move (R48). -/
theorem forward_of_nonpos (p : Profile) (anchor : Int) {h k : Nat} (hh : (h : Int) + p.offset ≤ 0)
    (hk : (k : Int) + p.offset ≤ 0) : forward p anchor h = forward p anchor k := by
  unfold forward
  rw [max_eq_left hh, max_eq_left hk]

/-! ## Boundaries (R53) -/

theorem frame_lt_next (p : Profile) (t : Nat) : t < (t / p.rate.period + 1) * p.rate.period := by
  have hpos := p.rate.period_pos
  rw [Nat.add_mul, Nat.one_mul]
  have hdiv := Nat.div_add_mod' t p.rate.period
  have hmod := Nat.mod_lt t hpos
  omega

/-- The inverse of a drop time that a house time has not reached lies above that house time, and is the least that reaches
it. -/
theorem inverse_least {p : Profile} {anchor : Int} {t h : Nat} (hlt : forward p anchor h < t) :
    h < inverse p anchor t ∧ ∀ x, x < inverse p anchor t → forward p anchor x < t := by
  have hreaches := le_forward_inverse p anchor t
  have habove : h < inverse p anchor t := by
    refine Nat.lt_of_not_le fun hle => ?_
    have hmono := forward_mono p anchor hle
    omega
  have hpos : 0 < (inverse p anchor t : Int) + p.offset := by
    refine Int.lt_of_not_ge fun hle => ?_
    have hsame := forward_of_nonpos p anchor (h := h) (by omega) hle
    omega
  exact ⟨habove, fun x hx => forward_lt_of_lt_inverse p anchor (by omega) hpos hx⟩

end Sys2Proof.Machine

open Sys2Proof Sys2Proof.Machine

/-- Settles O15. -/
theorem conversionsMeet : Obligations.ConversionsMeet := by
  refine ⟨le_forward_inverse, fun p anchor t h ht hpos hlt => forward_lt_of_lt_inverse p anchor ht hpos hlt,
    fun c p h => ?_⟩
  obtain ⟨habove, hleast⟩ := inverse_least (frame_lt_next p (forward p c.anchor h))
  exact ⟨rfl, habove, le_forward_inverse p c.anchor _, hleast⟩
end

section
/-! SUPPORT. Labels from frame numbers and back (R68 to R74). In drop-frame counting a position is split into its ten-minute
block, the minute in the block, and the frame in the minute, from which both directions are read off. -/

namespace Sys2Proof.Machine

/- One proof after another: a thread for each would take more memory than a check has. -/
set_option Elab.async false

/-! ## Non-drop labels (R69) -/

/-- A count within the 24 hours of a label day gives a label in range, from whose fields the count is formed again. -/
theorem nonDropLabel_spec {base m : Nat} (hbase : base ∈ [24, 25, 30, 48, 50, 60, 100, 120]) (hm : m < base * 86400) :
    (nonDropLabel base m).inRange base = true
    ∧ (3600 * (nonDropLabel base m).hours + 60 * (nonDropLabel base m).minutes + (nonDropLabel base m).seconds) * base
        + (nonDropLabel base m).frames = m := by
  simp only [List.mem_cons, List.not_mem_nil, or_false] at hbase
  rw [Label.inRange, Bool.and_eq_true, Bool.and_eq_true, Bool.and_eq_true, decide_eq_true_eq, decide_eq_true_eq,
    decide_eq_true_eq, decide_eq_true_eq]
  unfold nonDropLabel
  rcases hbase with rfl | rfl | rfl | rfl | rfl | rfl | rfl | rfl <;> dsimp only <;> omega

/-! ## Drop-frame labels (R70, R71) -/

/-- A drop-frame position: its ten-minute block, the minute in the block, and the frame in the minute, which starts after the
labels left out. `u` is 1 at base 30 and 2 at base 60. -/
structure DropSplit (u m c block minute frame : Nat) : Prop where
  blocks : block < 144
  minutes : minute < 10
  frames : frame < 1800 * u
  leftOut : minute ≠ 0 → 2 * u ≤ frame
  position : m = 17982 * u * block + 1798 * u * minute + frame
  count : c = 18000 * u * block + 1800 * u * minute + frame

theorem dropSplit_nonDropCount {u m : Nat} (hu : u = 1 ∨ u = 2) (hm : m < dayLength (30 * u) true) :
    ∃ block minute frame, DropSplit u m (nonDropCount (30 * u) m) block minute frame := by
  rcases hu with rfl | rfl
  · have hday : dayLength (30 * 1) true = 144 * 17982 := rfl
    have hcount : nonDropCount (30 * 1) m =
        m + 9 * 2 * (m / 17982) + (if 2 ≤ m % 17982 then 2 * ((m % 17982 - 2) / 1798) else 0) := rfl
    rw [hday] at hm
    by_cases hfirst : 2 ≤ m % 17982
    · rw [if_pos hfirst] at hcount
      exact ⟨m / 17982, (m % 17982 - 2) / 1798, (m % 17982 - 2) % 1798 + 2, by omega, by omega, by omega, by omega, by omega,
        by omega⟩
    · rw [if_neg hfirst] at hcount
      exact ⟨m / 17982, 0, m % 17982, by omega, by omega, by omega, by omega, by omega, by omega⟩
  · have hday : dayLength (30 * 2) true = 144 * 35964 := rfl
    have hcount : nonDropCount (30 * 2) m =
        m + 9 * 4 * (m / 35964) + (if 4 ≤ m % 35964 then 4 * ((m % 35964 - 4) / 3596) else 0) := rfl
    rw [hday] at hm
    by_cases hfirst : 4 ≤ m % 35964
    · rw [if_pos hfirst] at hcount
      exact ⟨m / 35964, (m % 35964 - 4) / 3596, (m % 35964 - 4) % 3596 + 4, by omega, by omega, by omega, by omega, by omega,
        by omega⟩
    · rw [if_neg hfirst] at hcount
      exact ⟨m / 35964, 0, m % 35964, by omega, by omega, by omega, by omega, by omega, by omega⟩

/-- The label of a split position is in range, is no label left out, and its minutes of the day are those of the split. -/
theorem DropSplit.label {u m c block minute frame : Nat} (h : DropSplit u m c block minute frame) (hu : u = 1 ∨ u = 2) :
    c < 30 * u * 86400 ∧ (nonDropLabel (30 * u) c).leftOut (30 * u) = false
    ∧ 60 * (nonDropLabel (30 * u) c).hours + (nonDropLabel (30 * u) c).minutes = 10 * block + minute := by
  obtain ⟨hblock, hminute, hframe, hleft, -, hcount⟩ := h
  have hnot (l : Label) (hl : ¬ (l.seconds = 0 ∧ l.minutes % 10 ≠ 0 ∧ l.frames < 2 * u)) :
      l.leftOut (30 * u) = false := by
    have hcounting : (dropCounting (30 * u)).left = 2 * u := by rcases hu with rfl | rfl <;> rfl
    rw [Label.leftOut, hcounting, Bool.eq_false_iff]
    simpa [and_assoc] using hl
  rcases hu with rfl | rfl
  · exact ⟨by omega, hnot _ (by unfold nonDropLabel; dsimp only; omega), by unfold nonDropLabel; dsimp only; omega⟩
  · exact ⟨by omega, hnot _ (by unfold nonDropLabel; dsimp only; omega), by unfold nonDropLabel; dsimp only; omega⟩

theorem labelOf_dropFrame_position {u n : Nat} (hu : u = 1 ∨ u = 2) :
    (labelOf (30 * u) true n).inRange (30 * u) = true
    ∧ (labelOf (30 * u) true n).position (30 * u) true = (n % dayLength (30 * u) true, false) := by
  have hbase : 30 * u ∈ [24, 25, 30, 48, 50, 60, 100, 120] := by rcases hu with rfl | rfl <;> decide
  have hday : 0 < dayLength (30 * u) true := by rcases hu with rfl | rfl <;> decide
  have hm := Nat.mod_lt n hday
  have hleft : (dropCounting (30 * u)).left = 2 * u := by rcases hu with rfl | rfl <;> rfl
  obtain ⟨block, minute, frame, hsplit⟩ := dropSplit_nonDropCount hu hm
  obtain ⟨hlt, hkept, hminutes⟩ := hsplit.label hu
  obtain ⟨hrange, hwhole⟩ := nonDropLabel_spec hbase hlt
  have hlabel : labelOf (30 * u) true n = nonDropLabel (30 * u) (nonDropCount (30 * u) (n % dayLength (30 * u) true)) := rfl
  rw [hlabel]
  refine ⟨hrange, ?_⟩
  unfold Label.position
  simp only [if_true, hkept, Bool.false_eq_true, if_false, hminutes, hleft, hwhole]
  obtain ⟨hblock, hminute, -, -, hposition, hcount⟩ := hsplit
  refine Prod.ext ?_ rfl
  dsimp only
  rcases hu with rfl | rfl <;> omega

theorem labelOf_nonDrop_position {base n : Nat} (hbase : base ∈ [24, 25, 30, 48, 50, 60, 100, 120]) :
    (labelOf base false n).inRange base = true
    ∧ (labelOf base false n).position base false = (n % dayLength base false, false) := by
  have hpos : 0 < base := by
    simp only [List.mem_cons, List.not_mem_nil, or_false] at hbase
    omega
  have hm : n % dayLength base false < base * 86400 := Nat.mod_lt n (Nat.mul_pos hpos (by decide))
  obtain ⟨hrange, hwhole⟩ := nonDropLabel_spec hbase hm
  have hlabel : labelOf base false n = nonDropLabel base (n % dayLength base false) := rfl
  rw [hlabel]
  refine ⟨hrange, ?_⟩
  unfold Label.position
  simp only [Bool.false_eq_true, if_false, hwhole]

/-! ## The nearest frame of a position (R74) -/

/-- `x` is as near to a reference as `n`, and no later where they are as near. -/
def NoFarther (reference x n : Nat) : Prop :=
  distance x reference ≤ distance n reference ∧ (distance x reference = distance n reference → x ≤ n)

theorem NoFarther.trans {reference x y z : Nat} (h : NoFarther reference x y) (h' : NoFarther reference y z) :
    NoFarther reference x z := by
  obtain ⟨hnear, hearly⟩ := h
  obtain ⟨hnear', hearly'⟩ := h'
  exact ⟨by omega, fun heq => by
    have hxy := hearly (by omega)
    have hyz := hearly' (by omega)
    omega⟩

theorem NoFarther.refl (reference x : Nat) : NoFarther reference x x := ⟨le_rfl, fun _ => le_rfl⟩

theorem NoFarther.of_above {reference x n : Nat} (hx : reference ≤ x) (hn : x ≤ n) : NoFarther reference x n := by
  unfold NoFarther distance
  omega

theorem NoFarther.of_below {reference x n : Nat} (hx : x ≤ reference) (hn : n ≤ x) : NoFarther reference x n := by
  unfold NoFarther distance
  omega

/-- Of two candidates the nearer is taken, and the earlier where they are as near. -/
theorem nearer_spec {reference x y : Nat} (hxy : x ≤ y) :
    (nearer reference x y = x ∨ nearer reference x y = y)
    ∧ NoFarther reference (nearer reference x y) x ∧ NoFarther reference (nearer reference x y) y := by
  unfold nearer
  split
  next h => exact ⟨.inr rfl, ⟨Nat.le_of_lt h, fun heq => absurd heq (Nat.ne_of_lt h)⟩, .refl _ _⟩
  next h => exact ⟨.inl rfl, .refl _ _, Nat.le_of_not_lt h, fun _ => hxy⟩

/-- A resolution: at the position, no further than any frame there, and the earliest of those as near. -/
def Resolves (day m reference x : Nat) : Prop := x % day = m ∧ ∀ n, n % day = m → NoFarther reference x n

/-- The frames at a position lie one label day apart. -/
theorem eq_of_position {day m n : Nat} (hn : n % day = m) : n = n / day * day + m := by
  rw [← hn, Nat.div_add_mod']

/-- The three frames at a position that lie about a reference are no farther from it than any other. -/
theorem candidate_noFarther {day m reference n : Nat} (hm : m < day) (hn : n % day = m) :
    NoFarther reference (reference / day * day + m) n ∨ NoFarther reference ((reference / day + 1) * day + m) n
    ∨ (1 ≤ reference / day ∧ NoFarther reference ((reference / day - 1) * day + m) n) := by
  have hreference := Nat.div_add_mod' reference day
  have hrest := Nat.mod_lt reference (Nat.zero_lt_of_lt hm)
  have hplace := eq_of_position hn
  generalize reference / day = k at *
  generalize n / day = j at *
  rcases Nat.lt_trichotomy j k with hlt | heq | hgt
  · have hle : j * day ≤ (k - 1) * day := Nat.mul_le_mul_right day (by omega)
    have hbelow : (k - 1) * day + day ≤ k * day := by
      rw [← Nat.succ_mul]
      exact Nat.mul_le_mul_right day (by omega)
    exact .inr (.inr ⟨by omega, .of_below (by omega) (by omega)⟩)
  · rw [hplace, heq]
    exact .inl (.refl _ _)
  · have hle : (k + 1) * day ≤ j * day := Nat.mul_le_mul_right day hgt
    have habove : (k + 1) * day = k * day + day := Nat.succ_mul k day
    exact .inr (.inl (.of_above (by omega) (by omega)))

theorem resolve_resolves {day m reference : Nat} (hm : m < day) : Resolves day m reference (resolve day m reference) := by
  have hat (k : Nat) : (k * day + m) % day = m := by
    rw [Nat.mul_comm, Nat.mul_add_mod, Nat.mod_eq_of_lt hm]
  have hcandidates (n : Nat) (hn : n % day = m) := candidate_noFarther (reference := reference) hm hn
  have hresolve : resolve day m reference =
      if 1 ≤ reference / day then nearer reference ((reference / day - 1) * day + m)
        (nearer reference (reference / day * day + m) ((reference / day + 1) * day + m))
      else nearer reference (reference / day * day + m) ((reference / day + 1) * day + m) := rfl
  rw [hresolve]
  generalize reference / day = k at *
  have hlater : k * day + m ≤ (k + 1) * day + m := Nat.add_le_add_right (Nat.mul_le_mul_right day (Nat.le_succ k)) m
  obtain ⟨hy, hy_mid, hy_late⟩ := nearer_spec (reference := reference) hlater
  generalize nearer reference (k * day + m) ((k + 1) * day + m) = y at *
  have hyat : y % day = m := by
    rcases hy with rfl | rfl
    · exact hat k
    · exact hat (k + 1)
  split
  next hpos =>
    have hearlier : (k - 1) * day + m ≤ y := by
      have hle : (k - 1) * day ≤ k * day := Nat.mul_le_mul_right day (Nat.sub_le k 1)
      rcases hy with rfl | rfl <;> omega
    obtain ⟨hx, hx_early, hx_later⟩ := nearer_spec (reference := reference) hearlier
    refine ⟨?_, fun n hn => ?_⟩
    · rcases hx with hx | hx <;> rw [hx]
      · exact hat (k - 1)
      · exact hyat
    · rcases hcandidates n hn with hmid | hlate | ⟨-, hearly⟩
      · exact hx_later.trans (hy_mid.trans hmid)
      · exact hx_later.trans (hy_late.trans hlate)
      · exact hx_early.trans hearly
  next hzero =>
    refine ⟨hyat, fun n hn => ?_⟩
    rcases hcandidates n hn with hmid | hlate | ⟨hpos, -⟩
    · exact hy_mid.trans hmid
    · exact hy_late.trans hlate
    · exact absurd hpos hzero

end Sys2Proof.Machine

open Sys2Proof Sys2Proof.Machine

/-- Settles O19. -/
theorem labelsRoundTrip : Obligations.LabelsRoundTrip := by
  refine ⟨fun base n dropFrame hbase hdrop => ?_, fun day m reference n hm hn => ?_⟩
  · cases dropFrame with
    | false => exact labelOf_nonDrop_position hbase
    | true =>
      rcases hdrop rfl with rfl | rfl
      · exact labelOf_dropFrame_position (u := 1) (.inl rfl)
      · exact labelOf_dropFrame_position (u := 2) (.inr rfl)
  · obtain ⟨hat, hnearest⟩ := resolve_resolves (reference := reference) hm
    obtain ⟨hnear, hearliest⟩ := hnearest n hn
    simp only [distance_eq_natAbs] at hnear hearliest
    exact ⟨hat, hnear, hearliest⟩
end

section
/-! SUPPORT. What words give back (sections 11.3, 11.5): the fields packed into a word, the numbers that run over two, the
records of PART and PROFILE built from both, and the words of a packet from its bits (R82, R146). -/

namespace Sys2Proof.Machine

/- One proof after another: a thread for each would take more memory than a check has. -/
set_option Elab.async false

/-! ## Fields of a word -/

/-- A field stands between what is placed above it and what is placed below it. -/
theorem bitsOf_wordOf {n lo len high v low : Nat} (h : n = high * 2 ^ (lo + len) + v * 2 ^ lo + low) (hv : v < 2 ^ len)
    (hlow : low < 2 ^ lo) (hn : n < 65536) : bitsOf (wordOf n) lo len = v := by
  have htoNat : (wordOf n).toNat = n := (BitVec.toNat_ofNat n 16).trans (Nat.mod_eq_of_lt hn)
  have hshift : n / 2 ^ lo = high * 2 ^ len + v := by
    have hpow : high * 2 ^ (lo + len) + v * 2 ^ lo + low = low + 2 ^ lo * (high * 2 ^ len + v) := by ring
    rw [h, hpow, Nat.add_mul_div_left _ _ (Nat.two_pow_pos lo), Nat.div_eq_of_lt hlow, Nat.zero_add]
  rw [bitsOf, htoNat, hshift, Nat.mul_add_mod_self_right, Nat.mod_eq_of_lt hv]

theorem flagAt_eq_place (b : Bool) (i : Nat) : flagAt b i = place b.toNat i 1 := by
  cases b <;> simp [flagAt, place]

theorem bitOf_eq {w : Word} {i : Nat} {b : Bool} (h : bitsOf w i 1 = b.toNat) : bitOf w i = b := by
  rw [bitOf, h]
  cases b <;> rfl

/-- A word of two byte fields. -/
theorem bytes_of_wordOf {a b : Nat} (ha : a < 256) (hb : b < 256) :
    bitsOf (wordOf (place a 8 8 + place b 0 8)) 8 8 = a ∧ bitsOf (wordOf (place a 8 8 + place b 0 8)) 0 8 = b := by
  have hplaced : place a 8 8 + place b 0 8 = a * 256 + b := by
    unfold place
    omega
  rw [hplaced]
  exact ⟨bitsOf_wordOf (high := 0) (low := b) (by omega) (by omega) (by omega) (by omega),
    bitsOf_wordOf (high := a) (low := 0) (by omega) (by omega) (by omega) (by omega)⟩

theorem toNat_wordOf {n : Nat} (h : n < 65536) : (wordOf n).toNat = n :=
  (BitVec.toNat_ofNat n 16).trans (Nat.mod_eq_of_lt h)

/-! ## Numbers in two words -/

theorem natToWords_two (n : Nat) : natToWords 2 n = [wordOf (n / 65536), wordOf n] := by
  simp [natToWords, wordOf]

theorem natOfWords_two {n : Nat} (h : n < 4294967296) : natOfWords [wordOf (n / 65536), wordOf n] = n := by
  have hhigh : (wordOf (n / 65536)).toNat = n / 65536 := toNat_wordOf (by omega)
  have hlow : (wordOf n).toNat = n % 65536 := BitVec.toNat_ofNat n 16
  simp only [natOfWords, List.foldl_cons, List.foldl_nil, hhigh, hlow]
  omega

theorem intToWords_two (i : Int) :
    intToWords 2 i = [wordOf ((i % 4294967296).toNat / 65536), wordOf (i % 4294967296).toNat] :=
  natToWords_two _

theorem intOfWords_two {i : Int} (hlow : -2147483648 ≤ i) (hhigh : i ≤ 2147483647) :
    intOfWords [wordOf ((i % 4294967296).toNat / 65536), wordOf (i % 4294967296).toNat] = i := by
  have hnat : natOfWords [wordOf ((i % 4294967296).toNat / 65536), wordOf (i % 4294967296).toNat] =
      (i % 4294967296).toNat := natOfWords_two (by omega)
  have hspan : ((65536 ^ [wordOf ((i % 4294967296).toNat / 65536), wordOf (i % 4294967296).toNat].length : Nat) : Int) =
      4294967296 := by
    rw [List.length_cons, List.length_cons, List.length_nil]
    norm_num
  unfold intOfWords
  rw [hnat, hspan]
  dsimp only
  split <;> omega

/-! ## PART (R22, R172) -/

theorem limited_of_within {low high n : Nat} (hlow : low ≤ n) (hhigh : n ≤ high) : limited low high n = n := by
  unfold limited
  omega

theorem JamPolicy.ofCode_code (p : JamPolicy) : (if p.code == 1 then JamPolicy.always else .guarded) = p := by
  cases p <;> rfl

theorem JamPolicy.code_lt (p : JamPolicy) : p.code < 2 := by cases p <;> decide

/-- The last word of a PART record: policy, enables, cause enables. -/
theorem part_flags (policy enables : Nat) (timing traffic : Bool) (hpolicy : policy < 4) (henables : enables < 4096) :
    let w := wordOf (place policy 14 2 + flagAt timing 13 + flagAt traffic 12 + place enables 0 12)
    bitsOf w 14 2 = policy ∧ bitOf w 13 = timing ∧ bitOf w 12 = traffic ∧ bitsOf w 0 12 = enables := by
  have htiming := Bool.toNat_lt timing
  have htraffic := Bool.toNat_lt traffic
  have hplaced : place policy 14 2 + flagAt timing 13 + flagAt traffic 12 + place enables 0 12 =
      policy * 16384 + timing.toNat * 8192 + traffic.toNat * 4096 + enables := by
    rw [flagAt_eq_place, flagAt_eq_place]
    unfold place
    omega
  dsimp only
  rw [hplaced]
  refine ⟨bitsOf_wordOf (high := 0) (low := timing.toNat * 8192 + traffic.toNat * 4096 + enables) ?_ ?_ ?_ ?_,
    bitOf_eq (bitsOf_wordOf (high := policy) (low := traffic.toNat * 4096 + enables) ?_ ?_ ?_ ?_),
    bitOf_eq (bitsOf_wordOf (high := policy * 2 + timing.toNat) (low := enables) ?_ ?_ ?_ ?_),
    bitsOf_wordOf (high := policy * 4 + timing.toNat * 2 + traffic.toNat) (low := 0) ?_ ?_ ?_ ?_⟩
  all_goals omega

theorem PartRecord.words_eq (p : PartRecord) :
    p.words = [wordOf (place p.propShift 8 8 + place p.intShift 0 8), wordOf p.lockWindow,
      wordOf (p.stepThreshold / 65536), wordOf p.stepThreshold, wordOf (place p.nLock 8 8 + place p.nOut 0 8),
      wordOf (place p.lMiss 8 8 + place p.holdoff 0 8), wordOf p.slewPpm, wordOf p.trunkDelay,
      wordOf (place p.jamPolicy.code 14 2 + flagAt p.timingEnable 13 + flagAt p.trafficEnable 12
        + place p.causeEnables.toNat 0 12)] := by
  rw [PartRecord.words, natToWords_two]
  rfl

/-- Every field of a PART record is in its range (R22, R172). -/
structure PartRecord.InRange (p : PartRecord) : Prop where
  propShift : p.propShift ≤ 15
  intShift : p.intShift ≤ 15
  lockWindow : 1 ≤ p.lockWindow ∧ p.lockWindow ≤ 65535
  stepThreshold : p.lockWindow ≤ p.stepThreshold ∧ p.stepThreshold < 4294967296
  nLock : 1 ≤ p.nLock ∧ p.nLock ≤ 255
  nOut : 1 ≤ p.nOut ∧ p.nOut ≤ 255
  lMiss : 1 ≤ p.lMiss ∧ p.lMiss ≤ 255
  slewPpm : 1 ≤ p.slewPpm ∧ p.slewPpm ≤ 1000
  trunkDelay : p.trunkDelay ≤ 65535
  holdoff : 1 ≤ p.holdoff ∧ p.holdoff ≤ 255

/-- The words of a PART record in its ranges give its fields. -/
structure PartFields (p : PartRecord) (ws : List Word) : Prop where
  propShift : bitsOf (wordAt ws 0) 8 8 = p.propShift
  intShift : bitsOf (wordAt ws 0) 0 8 = p.intShift
  lockWindow : (wordAt ws 1).toNat = p.lockWindow
  stepThreshold : natOfWords (wordsFrom ws 2 2) = p.stepThreshold
  nLock : bitsOf (wordAt ws 4) 8 8 = p.nLock
  nOut : bitsOf (wordAt ws 4) 0 8 = p.nOut
  lMiss : bitsOf (wordAt ws 5) 8 8 = p.lMiss
  holdoff : bitsOf (wordAt ws 5) 0 8 = p.holdoff
  slewPpm : (wordAt ws 6).toNat = p.slewPpm
  trunkDelay : (wordAt ws 7).toNat = p.trunkDelay
  jamPolicy : bitsOf (wordAt ws 8) 14 2 = p.jamPolicy.code
  timingEnable : bitOf (wordAt ws 8) 13 = p.timingEnable
  trafficEnable : bitOf (wordAt ws 8) 12 = p.trafficEnable
  causeEnables : bitsOf (wordAt ws 8) 0 12 = p.causeEnables.toNat

theorem PartRecord.InRange.fields {p : PartRecord} (h : p.InRange) : PartFields p p.words := by
  obtain ⟨hprop, hint, hlock, hstep, hnLock, hnOut, hlMiss, hslew, hdelay, hholdoff⟩ := h
  obtain ⟨h0, h0'⟩ := bytes_of_wordOf (a := p.propShift) (b := p.intShift) (by omega) (by omega)
  obtain ⟨h4, h4'⟩ := bytes_of_wordOf (a := p.nLock) (b := p.nOut) (by omega) (by omega)
  obtain ⟨h5, h5'⟩ := bytes_of_wordOf (a := p.lMiss) (b := p.holdoff) (by omega) (by omega)
  obtain ⟨hpolicy, htiming, htraffic, hcauses⟩ := part_flags p.jamPolicy.code p.causeEnables.toNat p.timingEnable
    p.trafficEnable (Nat.lt_trans p.jamPolicy.code_lt (by decide)) p.causeEnables.isLt
  rw [PartRecord.words_eq]
  exact
    { propShift := h0, intShift := h0', lockWindow := toNat_wordOf (by omega), stepThreshold := natOfWords_two hstep.2,
      nLock := h4, nOut := h4', lMiss := h5, holdoff := h5', slewPpm := toNat_wordOf (by omega),
      trunkDelay := toNat_wordOf (by omega), jamPolicy := hpolicy, timingEnable := htiming, trafficEnable := htraffic,
      causeEnables := hcauses }

theorem PartRecord.InRange.ofWords_words {p : PartRecord} (h : p.InRange) : PartRecord.ofWords p.words = p := by
  have hf := h.fields
  obtain ⟨hprop, hint, hlock, hstep, hnLock, hnOut, hlMiss, hslew, hdelay, hholdoff⟩ := h
  unfold PartRecord.ofWords
  dsimp only
  rw [hf.propShift, hf.intShift, hf.lockWindow, hf.stepThreshold, hf.nLock, hf.nOut, hf.lMiss, hf.holdoff, hf.slewPpm,
    hf.trunkDelay, hf.jamPolicy, hf.timingEnable, hf.trafficEnable, hf.causeEnables,
    limited_of_within (Nat.zero_le _) hprop, limited_of_within (Nat.zero_le _) hint, limited_of_within hlock.1 hlock.2,
    limited_of_within hnLock.1 hnLock.2, limited_of_within hnOut.1 hnOut.2, limited_of_within hlMiss.1 hlMiss.2,
    limited_of_within hholdoff.1 hholdoff.2, limited_of_within hslew.1 hslew.2, max_eq_right hstep.1,
    JamPolicy.ofCode_code, BitVec.ofNat_toNat, BitVec.setWidth_eq]

theorem PartRecord.InRange.not_limited {p : PartRecord} (h : p.InRange) : partLimits p.words = false := by
  have hf := h.fields
  have hpolicy := p.jamPolicy.code_lt
  obtain ⟨hprop, hint, hlock, hstep, hnLock, hnOut, hlMiss, hslew, hdelay, hholdoff⟩ := h
  have hzero (w : Word) (hw : w.toNat ≠ 0) : (w == 0#16) = false :=
    beq_eq_false_iff_ne.mpr fun h => hw (by rw [h]; rfl)
  unfold partLimits
  dsimp only
  rw [hf.propShift, hf.intShift, hf.stepThreshold, hf.nLock, hf.nOut, hf.lMiss, hf.holdoff, hf.jamPolicy,
    hzero _ (by rw [hf.lockWindow]; omega), hzero _ (by rw [hf.slewPpm]; omega), hf.lockWindow, hf.slewPpm]
  simp only [Bool.or_eq_false_iff, decide_eq_false_iff_not, beq_eq_false_iff_ne, and_true]
  omega

/-! ## PROFILE (R45, R46) -/

theorem Role.ofCode_code (r : Role) : Role.ofCode r.code = r := by cases r <;> rfl
theorem Role.code_lt (r : Role) : r.code < 5 := by cases r <;> decide
theorem Rate.ofCode_code (r : Rate) : Rate.ofCode r.code = some r := by cases r <;> rfl
theorem Rate.code_lt (r : Rate) : r.code < 16 := by cases r <;> decide
theorem Pull.ofCode_code (p : Pull) : Pull.ofCode p.code = p := by cases p <;> rfl
theorem Pull.code_lt (p : Pull) : p.code < 3 := by cases p <;> decide
theorem Audio.ofCode_code (a : Audio) : Audio.ofCode a.code = a := by cases a <;> rfl
theorem Audio.code_lt (a : Audio) : a.code < 4 := by cases a <;> decide
theorem DfFunction.ofCode_code (f : DfFunction) : DfFunction.ofCode f.code = f := by cases f <;> rfl
theorem DfFunction.code_lt (f : DfFunction) : f.code < 5 := by cases f <;> decide
theorem UserBitsSource.ofCode_code (u : UserBitsSource) : UserBitsSource.ofCode u.code = u := by cases u <;> rfl
theorem UserBitsSource.code_lt (u : UserBitsSource) : u.code < 3 := by cases u <;> decide
theorem LineRate.ofCode_code (r : LineRate) : LineRate.ofCode r.code = r := by cases r <;> rfl
theorem LineRate.code_lt (r : LineRate) : r.code < 4 := by cases r <;> decide

theorem LineFunction.of_flag (f : LineFunction) : (if (f == .packet) = true then LineFunction.packet else .none) = f := by
  cases f <;> rfl

theorem Clocking.of_flag (c : Clocking) : (if (c == .device) = true then Clocking.device else .part) = c := by
  cases c <;> rfl

/-- The first word of a PROFILE record: enabled, role, CLAP-capable, rate, drop-frame, pull, audio. -/
theorem profile_flags (enabled clap drop : Bool) (role rate pull audio : Nat) (hrole : role < 8) (hrate : rate < 16)
    (hpull : pull < 4) (haudio : audio < 4) :
    let w := wordOf (flagAt enabled 15 + place role 11 3 + flagAt clap 10 + place rate 6 4 + flagAt drop 5 + place pull 3 2
      + place audio 1 2)
    bitOf w 15 = enabled ∧ bitsOf w 11 3 = role ∧ bitOf w 10 = clap ∧ bitsOf w 6 4 = rate ∧ bitOf w 5 = drop
      ∧ bitsOf w 3 2 = pull ∧ bitsOf w 1 2 = audio := by
  have henabled := Bool.toNat_lt enabled
  have hclap := Bool.toNat_lt clap
  have hdrop := Bool.toNat_lt drop
  have hplaced : flagAt enabled 15 + place role 11 3 + flagAt clap 10 + place rate 6 4 + flagAt drop 5 + place pull 3 2
      + place audio 1 2 = enabled.toNat * 32768 + role * 2048 + clap.toNat * 1024 + rate * 64 + drop.toNat * 32
        + pull * 8 + audio * 2 := by
    rw [flagAt_eq_place, flagAt_eq_place, flagAt_eq_place]
    unfold place
    omega
  dsimp only
  rw [hplaced]
  refine ⟨bitOf_eq (bitsOf_wordOf (high := 0)
      (low := role * 2048 + clap.toNat * 1024 + rate * 64 + drop.toNat * 32 + pull * 8 + audio * 2) ?_ ?_ ?_ ?_),
    bitsOf_wordOf (high := enabled.toNat * 2)
      (low := clap.toNat * 1024 + rate * 64 + drop.toNat * 32 + pull * 8 + audio * 2) ?_ ?_ ?_ ?_,
    bitOf_eq (bitsOf_wordOf (high := enabled.toNat * 16 + role)
      (low := rate * 64 + drop.toNat * 32 + pull * 8 + audio * 2) ?_ ?_ ?_ ?_),
    bitsOf_wordOf (high := enabled.toNat * 32 + role * 2 + clap.toNat)
      (low := drop.toNat * 32 + pull * 8 + audio * 2) ?_ ?_ ?_ ?_,
    bitOf_eq (bitsOf_wordOf (high := enabled.toNat * 512 + role * 32 + clap.toNat * 16 + rate)
      (low := pull * 8 + audio * 2) ?_ ?_ ?_ ?_),
    bitsOf_wordOf (high := enabled.toNat * 1024 + role * 64 + clap.toNat * 32 + rate * 2 + drop.toNat)
      (low := audio * 2) ?_ ?_ ?_ ?_,
    bitsOf_wordOf (high := enabled.toNat * 4096 + role * 256 + clap.toNat * 128 + rate * 8 + drop.toNat * 4 + pull)
      (low := 0) ?_ ?_ ?_ ?_⟩
  all_goals omega

/-- The second word of a PROFILE record without pending bits: DF function, user-bits source, frame feed, line settings. -/
theorem profile_settings (df source rate : Nat) (feed packet device : Bool) (hdf : df < 8) (hsource : source < 4)
    (hrate : rate < 4) :
    let w := wordOf (place df 13 3 + place source 11 2 + flagAt feed 10 + flagAt packet 9 + flagAt device 8 + place rate 6 2
      + flagAt false 1 + flagAt false 0)
    bitsOf w 13 3 = df ∧ bitsOf w 11 2 = source ∧ bitOf w 10 = feed ∧ bitOf w 9 = packet ∧ bitOf w 8 = device
      ∧ bitsOf w 6 2 = rate := by
  have hfeed := Bool.toNat_lt feed
  have hpacket := Bool.toNat_lt packet
  have hdevice := Bool.toNat_lt device
  have hplaced : place df 13 3 + place source 11 2 + flagAt feed 10 + flagAt packet 9 + flagAt device 8 + place rate 6 2
      + flagAt false 1 + flagAt false 0 =
      df * 8192 + source * 2048 + feed.toNat * 1024 + packet.toNat * 512 + device.toNat * 256 + rate * 64 := by
    rw [flagAt_eq_place feed, flagAt_eq_place packet, flagAt_eq_place device]
    unfold place flagAt
    simp only [Bool.false_eq_true, if_false]
    omega
  dsimp only
  rw [hplaced]
  refine ⟨bitsOf_wordOf (high := 0)
      (low := source * 2048 + feed.toNat * 1024 + packet.toNat * 512 + device.toNat * 256 + rate * 64) ?_ ?_ ?_ ?_,
    bitsOf_wordOf (high := df) (low := feed.toNat * 1024 + packet.toNat * 512 + device.toNat * 256 + rate * 64) ?_ ?_ ?_ ?_,
    bitOf_eq (bitsOf_wordOf (high := df * 4 + source)
      (low := packet.toNat * 512 + device.toNat * 256 + rate * 64) ?_ ?_ ?_ ?_),
    bitOf_eq (bitsOf_wordOf (high := df * 8 + source * 2 + feed.toNat) (low := device.toNat * 256 + rate * 64) ?_ ?_ ?_ ?_),
    bitOf_eq (bitsOf_wordOf (high := df * 16 + source * 4 + feed.toNat * 2 + packet.toNat) (low := rate * 64) ?_ ?_ ?_ ?_),
    bitsOf_wordOf (high := df * 32 + source * 8 + feed.toNat * 4 + packet.toNat * 2 + device.toNat) (low := 0) ?_ ?_ ?_ ?_⟩
  all_goals omega

/-- A word of four digits. -/
theorem digits_of_wordOf (a b c e : BitVec 4) :
    let w := wordOf (place a.toNat 12 4 + place b.toNat 8 4 + place c.toNat 4 4 + place e.toNat 0 4)
    bitsOf w 12 4 = a.toNat ∧ bitsOf w 8 4 = b.toNat ∧ bitsOf w 4 4 = c.toNat ∧ bitsOf w 0 4 = e.toNat := by
  have ha := a.isLt
  have hb := b.isLt
  have hc := c.isLt
  have he := e.isLt
  have hplaced : place a.toNat 12 4 + place b.toNat 8 4 + place c.toNat 4 4 + place e.toNat 0 4 =
      a.toNat * 4096 + b.toNat * 256 + c.toNat * 16 + e.toNat := by
    unfold place
    omega
  dsimp only
  rw [hplaced]
  refine ⟨bitsOf_wordOf (high := 0) (low := b.toNat * 256 + c.toNat * 16 + e.toNat) ?_ ?_ ?_ ?_,
    bitsOf_wordOf (high := a.toNat) (low := c.toNat * 16 + e.toNat) ?_ ?_ ?_ ?_,
    bitsOf_wordOf (high := a.toNat * 16 + b.toNat) (low := e.toNat) ?_ ?_ ?_ ?_,
    bitsOf_wordOf (high := a.toNat * 256 + b.toNat * 16 + c.toNat) (low := 0) ?_ ?_ ?_ ?_⟩
  all_goals omega

theorem digitsOfWords_digitWords (v : Digits) :
    digitsOfWords (wordAt (digitWords v) 0) (wordAt (digitWords v) 1) = v := by
  obtain ⟨h0, h1, h2, h3⟩ := digits_of_wordOf v[0] v[1] v[2] v[3]
  obtain ⟨h4, h5, h6, h7⟩ := digits_of_wordOf v[4] v[5] v[6] v[7]
  have hfirst : wordAt (digitWords v) 0 =
      wordOf (place v[0].toNat 12 4 + place v[1].toNat 8 4 + place v[2].toNat 4 4 + place v[3].toNat 0 4) := rfl
  have hsecond : wordAt (digitWords v) 1 =
      wordOf (place v[4].toNat 12 4 + place v[5].toNat 8 4 + place v[6].toNat 4 4 + place v[7].toNat 0 4) := rfl
  rw [hfirst, hsecond, digitsOfWords, h0, h1, h2, h3, h4, h5, h6, h7]
  simp only [BitVec.ofNat_toNat, BitVec.setWidth_eq]
  refine Vector.ext fun i hi => ?_
  interval_cases i <;> rfl

theorem Profile.words_eq (p : Profile) :
    ∃ w0 w1 w2 w3 w4 w5 w6 w7 w8, p.words false false = [w0, w1, w2, w3, w4, w5, w6, w7, w8]
      ∧ w0 = wordOf (flagAt p.enabled 15 + place p.role.code 11 3 + flagAt p.clapCapable 10 + place p.rate.code 6 4
        + flagAt p.dropFrame 5 + place p.pull.code 3 2 + place p.audio.code 1 2)
      ∧ w1 = wordOf (place p.dfFunction.code 13 3 + place p.userBitsSource.code 11 2 + flagAt p.frameFeed 10
        + flagAt (p.lineFunction == .packet) 9 + flagAt (p.clocking == .device) 8 + place p.lineRate.code 6 2
        + flagAt false 1 + flagAt false 0)
      ∧ w2 = wordOf (place p.quietLimit 8 8 + place p.stampWindow 0 8)
      ∧ [w3, w4] = [wordOf ((p.offset % 4294967296).toNat / 65536), wordOf (p.offset % 4294967296).toNat]
      ∧ [w5, w6] = [wordOf (p.pulseWidth / 65536), wordOf p.pulseWidth]
      ∧ w7 = wordAt (digitWords p.fixedBits) 0 ∧ w8 = wordAt (digitWords p.fixedBits) 1 := by
  refine ⟨_, _, _, _, _, _, _, _, _, ?_, rfl, rfl, rfl, rfl, rfl, rfl, rfl⟩
  rw [Profile.words, natToWords_two, intToWords_two]
  rfl

/-- Every field of a profile is in its range (R46). -/
structure Profile.InRange (p : Profile) : Prop where
  dropFrame : p.dropFrame = true → p.rate = .fps30000over1001 ∨ p.rate = .fps60000over1001
  word : p.dfFunction = .word → p.audio ≠ .none
  offset : -2147483647 ≤ p.offset ∧ p.offset ≤ 2147483647
  pulseWidth : p.pulseWidth < p.rate.period
  quietLimit : p.quietLimit ≤ 255
  stampWindow : 1 ≤ p.stampWindow ∧ p.stampWindow ≤ 255

/-- The words of a profile in its ranges give its fields. -/
structure ProfileFields (p : Profile) (ws : List Word) : Prop where
  enabled : bitOf (wordAt ws 0) 15 = p.enabled
  role : bitsOf (wordAt ws 0) 11 3 = p.role.code
  clapCapable : bitOf (wordAt ws 0) 10 = p.clapCapable
  rate : bitsOf (wordAt ws 0) 6 4 = p.rate.code
  dropFrame : bitOf (wordAt ws 0) 5 = p.dropFrame
  pull : bitsOf (wordAt ws 0) 3 2 = p.pull.code
  audio : bitsOf (wordAt ws 0) 1 2 = p.audio.code
  dfFunction : bitsOf (wordAt ws 1) 13 3 = p.dfFunction.code
  userBitsSource : bitsOf (wordAt ws 1) 11 2 = p.userBitsSource.code
  frameFeed : bitOf (wordAt ws 1) 10 = p.frameFeed
  lineFunction : bitOf (wordAt ws 1) 9 = (p.lineFunction == .packet)
  clocking : bitOf (wordAt ws 1) 8 = (p.clocking == .device)
  lineRate : bitsOf (wordAt ws 1) 6 2 = p.lineRate.code
  quietLimit : bitsOf (wordAt ws 2) 8 8 = p.quietLimit
  stampWindow : bitsOf (wordAt ws 2) 0 8 = p.stampWindow
  offset : intOfWords (wordsFrom ws 3 2) = p.offset
  pulseWidth : natOfWords (wordsFrom ws 5 2) = p.pulseWidth
  fixedBits : digitsOfWords (wordAt ws 7) (wordAt ws 8) = p.fixedBits

theorem Rate.period_lt (r : Rate) : r.period < 4294967296 := by cases r <;> decide

theorem Profile.InRange.fields {p : Profile} (h : p.InRange) : ProfileFields p (p.words false false) := by
  obtain ⟨-, -, hoffset, hwidth, hquiet, hwindow⟩ := h
  have hperiod := p.rate.period_lt
  obtain ⟨henabled, hrole, hclap, hrate, hdrop, hpull, haudio⟩ := profile_flags p.enabled p.clapCapable p.dropFrame
    p.role.code p.rate.code p.pull.code p.audio.code (Nat.lt_trans p.role.code_lt (by decide)) p.rate.code_lt
    (Nat.lt_trans p.pull.code_lt (by decide)) p.audio.code_lt
  obtain ⟨hdf, hsource, hfeed, hpacket, hdevice, hline⟩ := profile_settings p.dfFunction.code p.userBitsSource.code
    p.lineRate.code p.frameFeed (p.lineFunction == .packet) (p.clocking == .device)
    (Nat.lt_trans p.dfFunction.code_lt (by decide)) (Nat.lt_trans p.userBitsSource.code_lt (by decide)) p.lineRate.code_lt
  obtain ⟨hquiet, hwindow⟩ := bytes_of_wordOf (a := p.quietLimit) (b := p.stampWindow) (by omega) (by omega)
  obtain ⟨w0, w1, w2, w3, w4, w5, w6, w7, w8, hwords, rfl, rfl, rfl, h34, h56, h7, h8⟩ := p.words_eq
  rw [hwords]
  have hoffset : intOfWords [w3, w4] = p.offset := by
    rw [h34]
    exact intOfWords_two (by omega) hoffset.2
  have hwidth : natOfWords [w5, w6] = p.pulseWidth := by
    rw [h56]
    exact natOfWords_two (by omega)
  have hbits : digitsOfWords w7 w8 = p.fixedBits := by
    rw [h7, h8]
    exact digitsOfWords_digitWords p.fixedBits
  exact
    { enabled := henabled, role := hrole, clapCapable := hclap, rate := hrate, dropFrame := hdrop, pull := hpull,
      audio := haudio, dfFunction := hdf, userBitsSource := hsource, frameFeed := hfeed, lineFunction := hpacket,
      clocking := hdevice, lineRate := hline, quietLimit := hquiet, stampWindow := hwindow, offset := hoffset,
      pulseWidth := hwidth, fixedBits := hbits }

theorem Rate.dropFrameAllowed_iff (r : Rate) :
    r.dropFrameAllowed = true ↔ r = .fps30000over1001 ∨ r = .fps60000over1001 := by
  simp [Rate.dropFrameAllowed]

theorem Profile.InRange.dropFrame_allowed {p : Profile} (h : p.InRange) :
    (p.dropFrame && p.rate.dropFrameAllowed) = p.dropFrame := by
  cases hdrop : p.dropFrame with
  | false => rfl
  | true => rw [p.rate.dropFrameAllowed_iff.mpr (h.dropFrame hdrop)]; rfl

theorem Profile.InRange.ofWords_words {p : Profile} (h : p.InRange) : Profile.ofWords (p.words false false) = some p := by
  have hf := h.fields
  have hallowed := h.dropFrame_allowed
  obtain ⟨-, hword, hoffset, hwidth, -, hwindow⟩ := h
  have haccepted : ¬ (decide (p.dfFunction = .word) && decide (p.audio = .none)) = true := by
    rw [Bool.and_eq_true, decide_eq_true_eq, decide_eq_true_eq]
    rintro ⟨hdf, haudio⟩
    exact hword hdf haudio
  have hwidth' : min (p.rate.period - 1) p.pulseWidth = p.pulseWidth := by omega
  have hoffset' : max (-2147483647) p.offset = p.offset := by omega
  unfold Profile.ofWords
  dsimp only
  rw [hf.enabled, hf.role, hf.clapCapable, hf.rate, hf.dropFrame, hf.pull, hf.audio, hf.dfFunction, hf.userBitsSource,
    hf.frameFeed, hf.lineFunction, hf.clocking, hf.lineRate, hf.quietLimit, hf.stampWindow, hf.offset, hf.pulseWidth,
    hf.fixedBits, Rate.ofCode_code, Audio.ofCode_code, DfFunction.ofCode_code]
  dsimp only
  rw [if_neg haccepted, Role.ofCode_code, Pull.ofCode_code, UserBitsSource.ofCode_code, LineRate.ofCode_code,
    LineFunction.of_flag, Clocking.of_flag, hallowed, hwidth', hoffset', limited_of_within hwindow.1 hwindow.2]

theorem Profile.InRange.not_limited {p : Profile} (h : p.InRange) : profileLimits p.rate (p.words false false) = false := by
  have hf := h.fields
  have hpull := p.pull.code_lt
  have hrole := p.role.code_lt
  have hdf := p.dfFunction.code_lt
  have hsource := p.userBitsSource.code_lt
  have hdrop : (p.dropFrame && !p.rate.dropFrameAllowed) = false := by
    rw [← h.dropFrame_allowed, Bool.and_assoc, Bool.and_not_self, Bool.and_false]
  obtain ⟨-, -, hoffset, hwidth, -, hwindow⟩ := h
  unfold profileLimits
  dsimp only
  rw [hf.dropFrame, hf.pull, hf.offset, hf.role, hf.dfFunction, hf.pulseWidth, hf.userBitsSource, hf.stampWindow, hdrop]
  simp only [Bool.or_eq_false_iff, decide_eq_false_iff_not, beq_eq_false_iff_ne, true_and]
  omega

/-! ## The bits of a packet (R82, R146) -/

/-- Bits shifted in one after another stand in their order, above what was there. -/
theorem getLsbD_foldl_shiftIn (bs : List Bool) (w : Word) {i : Nat} (hi : i < 16) :
    (bs.foldl (fun (w : Word) (b : Bool) => (w <<< 1) ||| (BitVec.ofBool b).zeroExtend 16) w).getLsbD i =
      if i < bs.length then bs.getD (bs.length - 1 - i) false else w.getLsbD (i - bs.length) := by
  induction bs generalizing w with
  | nil => rfl
  | cons b bs ih =>
    rw [List.foldl_cons, ih]
    rcases Nat.lt_trichotomy i bs.length with hlt | heq | hgt
    · have hindex : (b :: bs).length - 1 - i = bs.length - 1 - i + 1 := by
        rw [List.length_cons]
        omega
      rw [if_pos hlt, if_pos (by rw [List.length_cons]; omega), hindex, List.getD_cons_succ]
    · rw [if_neg (by omega), if_pos (by rw [List.length_cons]; omega), heq, List.length_cons, Nat.add_sub_cancel,
        Nat.sub_self, List.getD_cons_zero]
      cases b <;> simp
    · obtain ⟨k, hk⟩ : ∃ k, i - bs.length = k + 1 := ⟨i - bs.length - 1, by omega⟩
      have hk' : i - (b :: bs).length = k := by
        rw [List.length_cons]
        omega
      rw [if_neg (by omega), if_neg (by rw [List.length_cons]; omega), hk, hk']
      simp [show k + 1 < 16 by omega]
      exact (BitVec.getLsbD_eq_getElem (by omega)).symm

@[simp] theorem wordOfBits_wordBits (w : Word) : wordOfBits (wordBits w) = w := by
  refine BitVec.eq_of_getLsbD_eq fun i hi => ?_
  have hlength : (wordBits w).length = 16 := wordBits_length w
  rw [wordOfBits, getLsbD_foldl_shiftIn _ _ hi, hlength, if_pos hi]
  simp [wordBits, List.getD_eq_getElem?_getD, BitVec.getMsbD, show 16 - 1 - i < 16 by omega,
    show 15 - (15 - i) = i by omega]

theorem length_wordsBits (words : List Word) : (words.flatMap wordBits).length = 16 * words.length := by
  induction words with
  | nil => rfl
  | cons w ws ih =>
    rw [List.flatMap_cons, List.length_append, wordBits_length, ih, List.length_cons]
    omega

theorem wordsOfBits_wordsBits (words : List Word) : wordsOfBits words.length (words.flatMap wordBits) = some words := by
  induction words with
  | nil => rfl
  | cons w ws ih =>
    have hlength : (wordBits w).length = 16 := wordBits_length w
    have hlong : ¬ (wordBits w ++ ws.flatMap wordBits).length < 16 := by
      rw [List.length_append, hlength]
      omega
    have hfull : wordsOfBits (ws.length + 1) (wordBits w ++ ws.flatMap wordBits) =
        if (wordBits w ++ ws.flatMap wordBits).length < 16 then none
        else (wordsOfBits ws.length ((wordBits w ++ ws.flatMap wordBits).drop 16)).map
          (fun rest => wordOfBits ((wordBits w ++ ws.flatMap wordBits).take 16) :: rest) := rfl
    rw [List.flatMap_cons, List.length_cons, hfull, if_neg hlong, List.drop_left' hlength, List.take_left' hlength, ih,
      wordOfBits_wordBits]
    rfl

theorem getElem?_wordsBits {words : List Word} {i j : Nat} {w : Word} (hw : words[i]? = some w) (hj : j < 16) :
    (words.flatMap wordBits)[16 * i + j]? = some (w.getMsbD j) := by
  induction words generalizing i with
  | nil => cases hw
  | cons x ws ih =>
    have hlength : (wordBits x).length = 16 := wordBits_length x
    rw [List.flatMap_cons]
    cases i with
    | zero =>
      obtain rfl : x = w := Option.some.inj hw
      rw [Nat.mul_zero, Nat.zero_add, List.getElem?_append_left (by omega)]
      simp [wordBits, hj]
    | succ i =>
      rw [List.getElem?_append_right (by omega), hlength]
      have hindex : 16 * (i + 1) + j - 16 = 16 * i + j := by omega
      rw [hindex]
      exact ih hw

end Sys2Proof.Machine

open Sys2Proof Sys2Proof.Machine

/-- Settles O60. -/
theorem recordsReadBack : Obligations.RecordsReadBack := by
  refine ⟨fun p hprop hint hlock hlock' hstep hstep' hnLock hnLock' hnOut hnOut' hlMiss hlMiss' hslew hslew' hdelay
      hholdoff hholdoff' => ?_,
    fun p hdrop hword hoffset hoffset' hwidth hquiet hwindow hwindow' => ?_, fun words => ⟨?_, rfl, ?_, ?_⟩,
    fun words => ⟨?_, rfl, ?_, ?_⟩, fun s side words => ⟨fun hidle => ?_, fun hrun hsending => ?_⟩⟩
  · have hrange : p.InRange :=
      ⟨hprop, hint, ⟨hlock, hlock'⟩, ⟨hstep, hstep'⟩, ⟨hnLock, hnLock'⟩, ⟨hnOut, hnOut'⟩, ⟨hlMiss, hlMiss'⟩,
        ⟨hslew, hslew'⟩, hdelay, ⟨hholdoff, hholdoff'⟩⟩
    exact ⟨hrange.ofWords_words, hrange.not_limited⟩
  · have hrange : p.InRange := ⟨hdrop, hword, ⟨hoffset, hoffset'⟩, hwidth, hquiet, ⟨hwindow, hwindow'⟩⟩
    exact ⟨hrange.ofWords_words, hrange.not_limited⟩
  · rw [lineBits, List.length_cons, length_wordsBits, Nat.add_comm]
  · intro i j w hw hj
    have hindex : 1 + 16 * i + j = (16 * i + j) + 1 := by omega
    rw [hindex]
    exact getElem?_wordsBits hw hj
  · have hlength : (words.flatMap wordBits).length / 16 = words.length := by
      rw [length_wordsBits, Nat.mul_div_cancel_left _ (by decide)]
    rw [lineBits, wordsOfLine, hlength, wordsOfBits_wordsBits]
  · rw [trunkBits, List.length_cons, List.length_map, length_wordsBits, Nat.add_comm]
  · intro i j w hw hj
    have hindex : 1 + 16 * i + j = (16 * i + j) + 1 := by omega
    rw [hindex, trunkBits, List.getElem?_cons_succ, List.getElem?_map, getElem?_wordsBits hw hj]
    rfl
  · have hlength : (words.flatMap wordBits).length / 16 = words.length := by
      rw [length_wordsBits, Nat.mul_div_cancel_left _ (by decide)]
    rw [trunkBits, wordsOfTrunk, dataBits_map_data]
    dsimp only
    rw [hlength, wordsOfBits_wordsBits]
  · unfold State.trunkDrive
    rcases hidle with hreset | hnone
    · rw [if_pos hreset]
    · rw [hnone]
      split <;> rfl
  · rw [State.trunkDrive, if_neg (hrun ▸ Bool.false_ne_true), hsending]
end

section
/-! SUPPORT. The management unit (R154, R166, R167): how replies enter their queues and are handed over, what taking a request
answers, and what each load writes once it is judged. -/

namespace Sys2Proof.Machine

/- One proof after another: a thread for each would take more memory than a check has. -/
set_option Elab.async false

/-! ## The reply queues (R154) -/

theorem State.enterReply_eq (s : State) (r : Reply) :
    s.enterReply r = { s with trunk := s.trunk.withReply r.side r.words } := by
  unfold State.enterReply State.updPort Trunk.withReply
  cases r.side <;> rfl

theorem State.replyRoom_iff (s : State) (side : Side) :
    s.replyRoom side = true ↔ (s.port side).replies.length < 4 := decide_eq_true_iff

theorem State.trimWaits_eq_false_iff (s : State) (side : Side) :
    s.trimWaits side = false ↔ ∀ x ∈ s.mgmt.trimReplies, x.side ≠ side := by
  simp only [State.trimWaits, List.any_eq_false, beq_iff_eq, ne_eq]

/-- A reply that the unit hands over enters its queue where that has room and no STORE_TRIM reply waits. -/
theorem State.handOver_eq (s : State) (r : Reply) :
    s.handOver r =
      if (s.port r.side).replies.length < 4 ∧ s.trimWaits r.side = false then
        { s with trunk := s.trunk.withReply r.side r.words }
      else { s with mgmt := { s.mgmt with held := some r } } := by
  unfold State.handOver
  rw [State.enterReply_eq]
  refine if_congr ?_ rfl rfl
  rw [Bool.and_eq_true, s.replyRoom_iff, Bool.not_eq_true']

theorem State.trimReply_of_enters {s : State} {r : Reply} (hroom : (s.port r.side).replies.length < 4)
    (hwaits : s.trimWaits r.side = false) (hreset : ¬ s.ResetNext) :
    s.trimReply r = { s with trunk := s.trunk.withReply r.side r.words } := by
  have hreset' : s.resetNext = false := Bool.eq_false_of_not_eq_true (fun h => hreset (s.resetNext_iff.mp h))
  unfold State.trimReply
  rw [(s.replyRoom_iff r.side).mpr hroom, hwaits, hreset', State.enterReply_eq]
  exact if_pos rfl

theorem State.trimReply_of_waits {s : State} {r : Reply}
    (h : 4 ≤ (s.port r.side).replies.length ∨ s.trimWaits r.side = true ∨ s.ResetNext) :
    s.trimReply r = { s with mgmt := { s.mgmt with trimReplies := s.mgmt.trimReplies ++ [r] } } := by
  refine if_neg fun henters => ?_
  simp only [Bool.and_eq_true, Bool.not_eq_true', s.replyRoom_iff] at henters
  obtain ⟨⟨hroom, hwaits⟩, hreset⟩ := henters
  rcases h with hfull | htrim | hnext
  · exact Nat.not_lt.mpr hfull hroom
  · exact Bool.false_ne_true (hwaits.symm.trans htrim)
  · exact Bool.false_ne_true (hreset.symm.trans (s.resetNext_iff.mpr hnext))

/-- The first STORE_TRIM reply that waits for a side enters its queue. -/
theorem State.trimReplyEntry_of_room {s : State} {r : Reply} {before after : List Reply}
    (htrims : s.mgmt.trimReplies = before ++ r :: after) (hbefore : ∀ x ∈ before, x.side ≠ r.side)
    (hroom : (s.port r.side).replies.length < 4) :
    s.trimReplyEntry r.side =
      { s with mgmt := { s.mgmt with trimReplies := before ++ after }, trunk := s.trunk.withReply r.side r.words } := by
  have hother : ∀ x ∈ before, ¬ (x.side == r.side) = true := fun x hx h => hbefore x hx (eq_of_beq h)
  have hfirst : s.mgmt.trimReplies.find? (fun x => x.side == r.side) = some r := by
    rw [htrims, List.find?_append, List.find?_eq_none.mpr hother]
    simp
  have hrest : s.mgmt.trimReplies.eraseP (fun x => x.side == r.side) = before ++ after := by
    rw [htrims, List.eraseP_append_right _ hother, List.eraseP_cons_of_pos (p := fun x : Reply => x.side == r.side)
      (beq_self_eq_true r.side)]
  unfold State.trimReplyEntry
  rw [hfirst]
  dsimp only
  rw [if_pos ((s.replyRoom_iff r.side).mpr hroom), hrest, State.enterReply_eq]
  rfl

/-! ## Taking a request and answering it (R166, R179) -/

theorem State.Asked.takes {s : State} {k : RequestKind} {r : Request} {rest : List Request} (h : s.Asked k r rest)
    (carry : Request → State → Carried) : s.takeRequest k carry = (carry r (s.asTaken rest)).answer r := by
  unfold State.takeRequest
  rw [h.ready, h.head]
  exact if_pos h.kind

theorem Carried.answer_replied {c : Carried} {f : Finding} (hreply : c.reply = some f) (r : Request) :
    Replied r f c.state (c.answer r) := by
  unfold Replied Carried.answer
  rw [hreply]
  dsimp only
  split
  next => rfl
  next =>
    have hover := c.state.handOver_eq (c.state.replyPacket r.replyTo f)
    split
    next henters => exact hover.trans (if_pos henters)
    next hwaits => exact hover.trans (if_neg hwaits)

/-- A request taken answers the state it was carried out to, with its reply handed over. -/
theorem State.Asked.answers {s u : State} {k : RequestKind} {r : Request} {rest : List Request} {f : Finding}
    (h : s.Asked k r rest) (c : Instr) (carry : Request → State → Carried)
    (hcarry : carry r (s.asTaken rest) = { state := u, reply := some f })
    (heffect : effectOf c s = s.takeRequest k carry := by rfl) (hc : Instr.ofPowerOn c = false := by rfl) :
    ∃ t, exec c s = .next t ∧ Replied r f u t := by
  refine ⟨_, exec_running h.running hc, ?_⟩
  rw [heffect, h.takes, hcarry]
  exact Carried.answer_replied rfl r

/-! ## The steps of judgement that all owners share (R167) -/

theorem carryRead_eq (t : Table) (record : Nat → State → List Word) (r : Request) (s : State) :
    carryRead t record r s =
      { state := s,
        reply := some (if r.index < t.indexes then { status := .ok, record := record r.index s }
          else { status := .range, record := [] }) } := by
  unfold carryRead
  split <;> rfl

theorem Request.loadInRange_iff (r : Request) (t : Table) :
    r.loadInRange t = true ↔ r.index < t.indexes ∧ some r.record.length = t.recordWords := by
  simp only [Request.loadInRange, Bool.and_eq_true, decide_eq_true_eq, beq_iff_eq]

theorem carryLoad_of_inRange {r : Request} {t : Table} (hindex : r.index < t.indexes)
    (hlength : some r.record.length = t.recordWords) (owner : Nat → List Word → State → Carried) (s : State) :
    carryLoad t owner r s = owner r.index r.record s :=
  if_pos ((r.loadInRange_iff t).mpr ⟨hindex, hlength⟩)

theorem carryLoad_of_outOfRange {r : Request} {t : Table}
    (h : t.indexes ≤ r.index ∨ some r.record.length ≠ t.recordWords) (owner : Nat → List Word → State → Carried) (s : State) :
    carryLoad t owner r s = refuseWith s .range := by
  refine if_neg fun hin => ?_
  obtain ⟨hindex, hlength⟩ := (r.loadInRange_iff t).mp hin
  exact h.elim (fun hout => Nat.not_lt.mpr hout hindex) (fun hne => hne hlength)

theorem carryDropControl_of_index {r : Request} {d : DropId} (h : r.index = d.val) (act : DropId → State → State)
    (s : State) : carryDropControl act r s = carriedOut (act d s) := by
  unfold carryDropControl
  rw [dif_pos (h.trans_lt d.isLt)]
  have hd : (⟨r.index, h.trans_lt d.isLt⟩ : DropId) = d := Fin.ext h
  rw [hd]

theorem carryDropControl_of_outOfRange {r : Request} (h : 8 ≤ r.index) (act : DropId → State → State) (s : State) :
    carryDropControl act r s = refuseWith s .range :=
  dif_neg (Nat.not_lt.mpr h)

theorem dropOf_val (d : DropId) : dropOf d.val = d := Fin.ext (Nat.mod_eq_of_lt d.isLt)

theorem regionOf_val (i : RegionId) : regionOf i.val = i := Fin.ext (Nat.mod_eq_of_lt i.isLt)

theorem routeOf_val (i : RouteId) : routeOf i.val = i := Fin.ext (Nat.mod_eq_of_lt i.isLt)

/-! ## LOAD REGION (R127) -/

theorem RegionRecord.inRange_iff (x : RegionRecord) :
    x.inRange = true ↔
      (x.assigned = false ∨ (x.size ∈ [8, 16, 32, 64, 128, 256] ∧ x.base % x.size = 0 ∧ x.base ≤ 511)) := by
  simp only [RegionRecord.inRange, Bool.or_eq_true, Bool.not_eq_true', Bool.and_eq_true, regionSizes,
    List.contains_iff_mem, beq_iff_eq, decide_eq_true_eq, and_assoc]

theorem RegionRecord.moves_iff (x : RegionRecord) (r : Region) :
    x.moves r = true ↔ (x.assigned ≠ r.assigned ∨ x.base ≠ r.base ∨ x.size ≠ r.size) := by
  simp only [RegionRecord.moves, Bool.or_eq_true, bne_iff_ne, or_assoc]

theorem RegionRecord.clears_iff (x : RegionRecord) (r : Region) :
    x.clears r = true ↔
      (x.assigned ≠ r.assigned ∨ (r.assigned = true ∧ (x.base ≠ r.base ∨ x.size ≠ r.size))) := by
  simp only [RegionRecord.clears, Bool.or_eq_true, Bool.and_eq_true, bne_iff_ne]

/-- The region that an accepted record writes, with the placement and policy of the record. -/
theorem RegionRecord.write_eq (x : RegionRecord) (r : Region) :
    x.write r =
      if x.assigned ≠ r.assigned ∨ (r.assigned = true ∧ (x.base ≠ r.base ∨ x.size ≠ r.size)) then
        { r with
          assigned := x.assigned, base := x.base, size := x.size, policy := x.policy, accepted := 0, retired := 0,
          discarded := 0 }
      else { r with assigned := x.assigned, base := x.base, size := x.size, policy := x.policy } :=
  if_congr (x.clears_iff r) rfl rfl

/-- Two runs meet where they have a member in common. -/
theorem runsMeet_of_common {base size base' size' n : Nat} (hlow : base ≤ n) (hhigh : n < base + size) (hlow' : base' ≤ n)
    (hhigh' : n < base' + size') : runsMeet base size base' size' = true := by
  simp only [runsMeet, Bool.and_eq_true, decide_eq_true_eq]
  omega

/-- Two runs that meet, neither empty, have a member in common. -/
theorem common_of_runsMeet {base size base' size' : Nat} (h : runsMeet base size base' size' = true) (hsize : 0 < size)
    (hsize' : 0 < size') : ∃ n, base ≤ n ∧ n < base + size ∧ base' ≤ n ∧ n < base' + size' := by
  simp only [runsMeet, Bool.and_eq_true, decide_eq_true_eq] at h
  exact ⟨max base base', by omega⟩

theorem State.regionOverlaps_of_shared {s : State} {i j : RegionId} {x : RegionRecord} {slot : Nat}
    (hassigned : x.assigned = true) (hji : j ≠ i) (hown : (s.region j).owns slot) (hlow : x.base ≤ slot)
    (hhigh : slot < x.base + x.size) : s.regionOverlaps i x = true := by
  obtain ⟨hj, hjlow, hjhigh⟩ := hown
  simp only [State.regionOverlaps, hassigned, Bool.true_and, List.any_eq_true]
  exact ⟨j, mem_allRegions j, by simp [hji, hj, runsMeet_of_common hlow hhigh hjlow hjhigh]⟩

theorem State.regionOverlaps_eq_false {s : State} {i : RegionId} {x : RegionRecord} (hsize : x.assigned = true → 0 < x.size)
    (h : x.assigned = false
      ∨ (∀ j, j ≠ i → (s.region j).assigned = true →
          0 < (s.region j).size ∧ ∀ slot, (s.region j).owns slot → ¬ (x.base ≤ slot ∧ slot < x.base + x.size))) :
    s.regionOverlaps i x = false := by
  refine Bool.eq_false_of_not_eq_true fun hover => ?_
  simp only [State.regionOverlaps, Bool.and_eq_true, List.any_eq_true, bne_iff_ne] at hover
  obtain ⟨hassigned, j, -, ⟨hji, hj⟩, hmeet⟩ := hover
  rcases h with hnot | hapart
  · exact Bool.false_ne_true (hnot.symm.trans hassigned)
  · obtain ⟨hjsize, hslots⟩ := hapart j hji hj
    obtain ⟨slot, hlow, hhigh, hjlow, hjhigh⟩ := common_of_runsMeet hmeet (hsize hassigned) hjsize
    exact hslots slot ⟨hj, hjlow, hjhigh⟩ ⟨hlow, hhigh⟩

/-! ## LOAD ROUTE (R158) -/

theorem RouteKind.exists_code {k : BitVec 2} (h : k.toNat < 2) : ∃ kind : RouteKind, k = kind.code := by
  have hcases : k = 0#2 ∨ k = 1#2 := by
    rcases (by omega : k.toNat = 0 ∨ k.toNat = 1) with hk | hk
    · exact .inl (BitVec.eq_of_toNat_eq hk)
    · exact .inr (BitVec.eq_of_toNat_eq hk)
  rcases hcases with rfl | rfl
  · exact ⟨.stamp, rfl⟩
  · exact ⟨.sync, rfl⟩

theorem State.routeOverlaps_of_shared {s : State} {i j : RouteId} {x : Route} {k : RouteKind} {station : Nat} (hji : j ≠ i)
    (hx : x.covers k station = true) (hj : (s.route j).covers k station = true) : s.routeOverlaps i x = true := by
  obtain ⟨hvalid, hkind, hlow, hhigh⟩ := (x.covers_iff k station).mp hx
  obtain ⟨hvalid', hkind', hlow', hhigh'⟩ := ((s.route j).covers_iff k station).mp hj
  simp only [State.routeOverlaps, hvalid, Bool.true_and, List.any_eq_true]
  exact ⟨j, mem_allRoutes j, by simp [hji, hvalid', hkind, hkind', runsMeet_of_common hlow hhigh hlow' hhigh']⟩

theorem State.routeOverlaps_eq_false {s : State} {i : RouteId} {x : Route} (hrange : x.inRange = true)
    (hsizes : ∀ j, (s.route j).valid = true → 0 < (s.route j).size)
    (hapart : x.valid = true → ∀ j k station, j ≠ i → x.covers k station = true → (s.route j).covers k station = false) :
    s.routeOverlaps i x = false := by
  refine Bool.eq_false_of_not_eq_true fun hover => ?_
  simp only [State.routeOverlaps, Bool.and_eq_true, List.any_eq_true, bne_iff_ne, beq_iff_eq] at hover
  obtain ⟨hvalid, j, -, ⟨⟨hji, hj⟩, hkinds⟩, hmeet⟩ := hover
  obtain ⟨hkind, hsize, -⟩ := x.inRange_iff.mp hrange hvalid
  obtain ⟨kind, hcode⟩ := RouteKind.exists_code hkind
  have hpos : 0 < x.size := by
    simp only [routeSizes, List.mem_cons, List.not_mem_nil, or_false] at hsize
    omega
  obtain ⟨station, hlow, hhigh, hlow', hhigh'⟩ := common_of_runsMeet hmeet hpos (hsizes j hj)
  have hx : x.covers kind station = true := (x.covers_iff kind station).mpr ⟨hvalid, hcode, hlow, hhigh⟩
  have hcovers : (s.route j).covers kind station = true :=
    ((s.route j).covers_iff kind station).mpr ⟨hj, hkinds.trans hcode, hlow', hhigh'⟩
  exact Bool.false_ne_true ((hapart hvalid j kind station hji hx).symm.trans hcovers)

/-! ## LOAD PART and HOLD -/

theorem PartRecord.ofWords_limits (ws : List Word) {p : PartRecord} (hp : p = PartRecord.ofWords ws) :
    p.propShift ≤ 15 ∧ p.intShift ≤ 15 ∧ 1 ≤ p.lockWindow ∧ p.lockWindow ≤ p.stepThreshold ∧ 1 ≤ p.nLock ∧ 1 ≤ p.nOut
      ∧ 1 ≤ p.lMiss ∧ 1 ≤ p.slewPpm ∧ p.slewPpm ≤ 1000 ∧ 1 ≤ p.holdoff := by
  have one_le {high : Nat} (h : 1 ≤ high) (n : Nat) : 1 ≤ limited 1 high n := (limited_bounds h n).1
  subst hp
  exact ⟨(limited_bounds (Nat.zero_le 15) _).2, (limited_bounds (Nat.zero_le 15) _).2, one_le (by decide) _,
    Nat.le_max_left _ _, one_le (by decide) _, one_le (by decide) _, one_le (by decide) _, one_le (by decide) _,
    (limited_bounds (by decide) _).2, one_le (by decide) _⟩

/-- In SLEW, c takes the new L_slew with the sign it had (R23). -/
theorem State.writePart_eq (s : State) (p : PartRecord) :
    s.writePart p = { s with
      part := p,
      clock := { s.clock with correction :=
        if s.tracker.state = .slew then
          if s.clock.correction < 0 then -(p.slewPpm * 67108864 / 1000 : Nat) else (p.slewPpm * 67108864 / 1000 : Nat)
        else s.clock.correction } } := by
  unfold State.writePart
  dsimp only
  split <;> rfl

theorem State.holdTracker_of_clear {s : State} (hhold : s.tracker.hold = false) :
    s.holdTracker = { s with
      clock := { s.clock with correction := s.tracker.drift },
      tracker := { s.tracker with
        state := .freewheel, lockCount := 0, outlierCount := 0, firstArrival := true, expiryDue := false,
        hold := true, heldFromAcquire := s.tracker.state == .acquire },
      reports := s.reports.latchAll (if s.tracker.state = .locked then [.lockLost] else []) } := by
  unfold State.holdTracker
  rw [if_neg (by rw [hhold]; decide)]
  dsimp only
  rw [State.latchLockLost_eq]
  rfl

end Sys2Proof.Machine

open Sys2Proof Sys2Proof.Machine

/-- Settles O48: the first STORE_TRIM reply that waits for the side, or the reply held, enters where its queue has room. -/
theorem waitingRepliesEnter : Obligations.WaitingRepliesEnter := by
  unfold Obligations.WaitingRepliesEnter
  refine ⟨fun s r hrun hheld hroom htrims => ?held, fun s r before after hrun htrims hbefore hroom => ?trim⟩
  case held =>
    rw [exec_running hrun]
    have henters : (s.replyRoom r.side && !s.trimWaits r.side) = true := by
      rw [(s.replyRoom_iff r.side).mpr hroom, (s.trimWaits_eq_false_iff r.side).mpr htrims]
      rfl
    have hentry : s.heldReplyEntry = (s.setMgmt { s.mgmt with held := none }).enterReply r := by
      unfold State.heldReplyEntry
      rw [hheld]
      exact if_pos henters
    exact congrArg _ (hentry.trans (State.enterReply_eq _ r))
  case trim =>
    rw [exec_running hrun]
    exact congrArg _ (State.trimReplyEntry_of_room htrims hbefore hroom)

/-- Settles O49: STORE_TRIM by whether a write is in flight, and the completion by whom it answers and whether that reply has
to wait. -/
theorem trimIsWritten : Obligations.TrimIsWritten := by
  unfold Obligations.TrimIsWritten
  refine ⟨fun s r rest hasked => ⟨fun hfree => ?starts, fun hbusy => ?busy⟩,
    fun s w hrun hwrite => ⟨fun hto => ?unanswered, fun q reply hto hreply => ?answered⟩⟩
  case starts =>
    rw [exec_running hasked.running]
    have hcarry : carryStoreTrim r (s.asTaken rest) = _ :=
      if_neg (show ¬ s.trim.write.isSome = true by rw [hfree]; decide)
    exact congrArg _ ((hasked.takes carryStoreTrim).trans (by rw [hcarry]; rfl))
  case busy =>
    exact hasked.answers .storeTrim carryStoreTrim (if_pos (Option.isSome_iff_ne_none.mpr hbusy))
  case unanswered =>
    rw [exec_running hrun]
    refine congrArg _ (show s.trimWritten = _ from ?_)
    unfold State.trimWritten
    rw [hwrite]
    dsimp only
    rw [hto]
    rfl
  case answered =>
    have hwritten : s.trimWritten = (s.setTrim { value := w.captured, write := none }).trimReply reply := by
      unfold State.trimWritten
      rw [hwrite]
      dsimp only
      rw [hto, hreply]
      rfl
    have hside : reply.side = q.side := by rw [hreply]; rfl
    rw [exec_running hrun, ← hside]
    exact ⟨fun ⟨hroom, hwaits, hreset⟩ => congrArg _ (hwritten.trans (State.trimReply_of_enters hroom hwaits hreset)),
      fun hwaits => congrArg _ (hwritten.trans (State.trimReply_of_waits hwaits))⟩

/-- Settles O50: every READ goes through `carryRead`, which leaves the state as it is. -/
theorem readsAnswerRecord : Obligations.ReadsAnswerRecord := by
  unfold Obligations.ReadsAnswerRecord
  intro s tb r rest hasked
  refine hasked.answers (readCommand tb) (carryRead tb (fun i u => u.tableRecord tb i)) ?carry ?effect ?other
  case carry =>
    have hrecord : (s.asTaken rest).tableRecord tb r.index = s.tableRecord tb r.index := by cases tb <;> rfl
    rw [carryRead_eq, hrecord]
  case effect => cases tb <;> rfl
  case other => cases tb <;> rfl

/-- Settles O51: the steps of R167 that come before any owner. -/
theorem requestsRefused : Obligations.RequestsRefused := by
  unfold Obligations.RequestsRefused
  refine ⟨fun s r rest hasked => ?unknown, fun s tb c r rest hc hasked hout => ?load, fun s k c r rest hc hasked hout => ?drop⟩
  case unknown => exact hasked.answers .unknownRequest (fun _ u => refuseWith u .unknown) rfl
  case load =>
    simp only [List.mem_cons, Prod.mk.injEq, List.not_mem_nil, or_false] at hc
    rcases hc with ⟨rfl, rfl⟩ | ⟨rfl, rfl⟩ | ⟨rfl, rfl⟩ | ⟨rfl, rfl⟩ | ⟨rfl, rfl⟩
    · exact hasked.answers .loadPart _ (carryLoad_of_outOfRange hout ownLoadPart _)
    · exact hasked.answers .loadProfile _ (carryLoad_of_outOfRange hout ownLoadProfile _)
    · exact hasked.answers .loadRegion _ (carryLoad_of_outOfRange hout ownLoadRegion _)
    · exact hasked.answers .loadRoute _ (carryLoad_of_outOfRange hout ownLoadRoute _)
    · exact hasked.answers .loadUserBits _ (carryLoad_of_outOfRange hout ownLoadUserBits _)
  case drop =>
    simp only [List.mem_cons, Prod.mk.injEq, List.not_mem_nil, or_false] at hc
    rcases hc with ⟨rfl, rfl⟩ | ⟨rfl, rfl⟩
    · exact hasked.answers .dropReset _ (carryDropControl_of_outOfRange hout (fun d u => u.dropReset d) _)
    · exact hasked.answers .anchor _ (carryDropControl_of_outOfRange hout (fun d u => u.requestAnchor d) _)

/-- Settles O52: every field read is limited, and the record is written with c's new L_slew in SLEW. -/
theorem loadPartWrites : Obligations.LoadPartWrites := by
  unfold Obligations.LoadPartWrites
  intro s r rest p hasked hindex hlength hp
  obtain ⟨t, ht, hreplied⟩ := hasked.answers .loadPart (carryLoad .part ownLoadPart) (by
    rw [carryLoad_of_inRange (by rw [hindex]; decide) (by rw [hlength]; rfl), ownLoadPart, ← hp, State.writePart_eq]
    rfl)
  exact ⟨PartRecord.ofWords_limits r.record hp, _, t, ht, rfl, hreplied⟩

/-- Settles O54: the judgements of R127 in their order, each as the statement gives it. -/
theorem loadRegionJudged : Obligations.LoadRegionJudged := by
  unfold Obligations.LoadRegionJudged
  intro s r rest i x hasked hindex hlength hx
  have hown : carryLoad .region ownLoadRegion r (s.asTaken rest) = ownLoadRegion i.val r.record (s.asTaken rest) := by
    rw [carryLoad_of_inRange (t := .region) (hindex.trans_lt i.isLt) (by rw [hlength]; rfl), hindex]
  have hjudged : ownLoadRegion i.val r.record (s.asTaken rest) =
      if !x.inRange then refuseWith (s.asTaken rest) .range
      else if !(s.region i).items.isEmpty && x.moves (s.region i) then refuseWith (s.asTaken rest) .busy
      else if s.regionOverlaps i x then refuseWith (s.asTaken rest) .overlap
      else loaded ((s.asTaken rest).updRegion i x.write) false (x.write (s.region i)).words := by
    rw [ownLoadRegion, ← hx, regionOf_val]
    rfl
  have hsize : x.inRange = true → x.assigned = true → 0 < x.size := by
    intro hrange hassigned
    rcases x.inRange_iff.mp hrange with hnot | ⟨hsize, -, -⟩
    · exact absurd (hnot.symm.trans hassigned) Bool.false_ne_true
    · simp only [List.mem_cons, List.not_mem_nil, or_false] at hsize
      omega
  refine ⟨fun hassigned hbad => ?range, fun hgood => ?judged⟩
  case range =>
    refine hasked.answers .loadRegion _ (hown.trans (hjudged.trans (if_pos ?_)))
    rw [Bool.not_eq_true', ← Bool.not_eq_true, x.inRange_iff]
    rintro (hnot | ⟨hsize, hbase, htop⟩)
    · exact Bool.false_ne_true (hnot.symm.trans hassigned)
    · exact hbad.elim (absurd hsize) (fun h => h.elim (absurd hbase) (fun hhigh => Nat.not_lt.mpr htop hhigh))
  have hrange : x.inRange = true := x.inRange_iff.mpr hgood
  rw [if_neg (show ¬ (!x.inRange) = true by rw [hrange]; decide)] at hjudged
  refine ⟨fun hheld hmoves => ?busy, fun hstays => ?placed⟩
  case busy =>
    refine hasked.answers .loadRegion _ (hown.trans (hjudged.trans (if_pos ?_)))
    rw [Bool.and_eq_true, x.moves_iff]
    exact ⟨by simpa using hheld, hmoves⟩
  rw [if_neg (show ¬ (!(s.region i).items.isEmpty && x.moves (s.region i)) = true by
    rw [Bool.and_eq_true, x.moves_iff]
    rintro ⟨hheld, hmoves⟩
    rcases hstays with hempty | ⟨hassigned, hbase, hxsize⟩
    · rw [hempty] at hheld
      exact absurd hheld (by decide)
    · exact hmoves.elim (absurd hassigned) (fun h => h.elim (absurd hbase) (absurd hxsize)))] at hjudged
  refine ⟨fun hassigned ⟨j, slot, hji, hslot, hlow, hhigh⟩ => ?overlap, fun hapart => ?written⟩
  case overlap =>
    exact hasked.answers .loadRegion _
      (hown.trans (hjudged.trans (if_pos (State.regionOverlaps_of_shared hassigned hji hslot hlow hhigh))))
  case written =>
    have hfree : s.regionOverlaps i x = false := State.regionOverlaps_eq_false (hsize hrange) hapart
    rw [if_neg (show ¬ s.regionOverlaps i x = true by rw [hfree]; decide)] at hjudged
    have hi : ((s.asTaken rest).updRegion i x.write).region i = x.write (s.region i) := State.region_updRegion_self _ i _
    obtain ⟨t, ht, hreplied⟩ := hasked.answers .loadRegion _ (hown.trans hjudged)
    refine ⟨(s.asTaken rest).updRegion i x.write, t, ht, rfl, fun j hj => State.region_updRegion_ne (s.asTaken rest) _ hj,
      hi.trans (x.write_eq _), ?_⟩
    rw [hi]
    exact hreplied

/-- Settles O55: the judgements of R158 in their order; a user-bits entry is always written. -/
theorem loadRouteAndUserBits : Obligations.LoadRouteAndUserBits := by
  unfold Obligations.LoadRouteAndUserBits
  refine ⟨fun s r rest i x hasked hindex hlength hx => ?route, fun s r rest i v hasked hindex hlength hv => ?userBits⟩
  case userBits =>
    refine hasked.answers .loadUserBits (carryLoad .userBits ownLoadUserBits) ?_
    rw [carryLoad_of_inRange (t := .userBits) (hindex.trans_lt i.isLt) (by rw [hlength]; rfl), ownLoadUserBits, ← hv, hindex]
    have hset : s.labels.userBits.setIfInBounds i.val v = s.labels.userBits.set i.val v := by
      simp [Vector.setIfInBounds, Vector.set, Array.setIfInBounds]
    exact congrArg
      (fun bits => loaded ((s.asTaken rest).setLabels { s.labels with userBits := bits }) false (digitWords v)) hset
  have hown : carryLoad .route ownLoadRoute r (s.asTaken rest) = ownLoadRoute i.val r.record (s.asTaken rest) := by
    rw [carryLoad_of_inRange (t := .route) (hindex.trans_lt i.isLt) (by rw [hlength]; rfl), hindex]
  have hjudged : ownLoadRoute i.val r.record (s.asTaken rest) =
      if !x.inRange then refuseWith (s.asTaken rest) .range
      else if s.routeOverlaps i x then refuseWith (s.asTaken rest) .overlap
      else loaded ((s.asTaken rest).setRoute i x) false x.words := by
    rw [ownLoadRoute, ← hx, routeOf_val]
    rfl
  have hin : x.inRange = true → ¬ (!x.inRange) = true := fun h => by rw [h]; decide
  refine ⟨fun hvalid hbad => ?range, fun hvalid hkind hsize hbase ⟨j, k, station, hji, hxc, hjc⟩ => ?overlap,
    fun hgood hsizes => ?written⟩
  case range =>
    refine hasked.answers .loadRoute _ (hown.trans (hjudged.trans (if_pos ?_)))
    rw [Bool.not_eq_true', ← Bool.not_eq_true, x.inRange_iff]
    intro hrange
    obtain ⟨hkind, hsize, hbase⟩ := hrange hvalid
    exact hbad.elim (fun h => Nat.not_lt.mpr h hkind) (fun h => h.elim (absurd hsize) (absurd hbase))
  case overlap =>
    have hrange : x.inRange = true := x.inRange_iff.mpr fun _ => ⟨hkind, hsize, hbase⟩
    exact hasked.answers .loadRoute _ (hown.trans (hjudged.trans ((if_neg (hin hrange)).trans
      (if_pos (State.routeOverlaps_of_shared hji hxc hjc)))))
  case written =>
    have hnot : x.valid = false → ¬ x.valid = true := fun h => by rw [h]; decide
    have hrange : x.inRange = true := x.inRange_iff.mpr fun hvalid =>
      hgood.elim (fun h => absurd hvalid (hnot h)) (fun ⟨hkind, hsize, hbase, _⟩ => ⟨hkind, hsize, hbase⟩)
    have hapart : s.routeOverlaps i x = false := State.routeOverlaps_eq_false hrange hsizes fun hvalid =>
      hgood.elim (fun h => absurd hvalid (hnot h)) (fun ⟨_, _, _, hothers⟩ => hothers)
    have hfree : ¬ s.routeOverlaps i x = true := by rw [hapart]; decide
    obtain ⟨t, ht, hreplied⟩ := hasked.answers .loadRoute _
      (hown.trans (hjudged.trans ((if_neg (hin hrange)).trans (if_neg hfree))))
    have hroute (j : RouteId) : ((s.asTaken rest).setRoute i x).route j = if j = i then x else s.route j :=
      State.route_setRoute _ i j x
    exact ⟨_, t, ht, rfl, (hroute i).trans (if_pos rfl), fun j hj => (hroute j).trans (if_neg hj), hreplied⟩

/-- Settles O56: each control's effect on its one block, and the effects that its block leaves out. -/
theorem controlsReachOneBlock : Obligations.ControlsReachOneBlock := by
  unfold Obligations.ControlsReachOneBlock
  intro s r rest f hf
  subst hf
  refine ⟨fun hasked => ?reopen, fun hasked => ?forceJam, fun hasked hhold => ?hold, fun hasked hhold => ?held,
    fun hasked hhold => ?notHeld, fun hasked hhold => ?resume, fun d hasked hindex hdisabled => ?noAnchor,
    fun d hasked hindex henabled => ?anchor⟩
  case reopen =>
    refine hasked.answers .reopen (carryControl State.reopenGate) (congrArg carriedOut ?_)
    unfold State.reopenGate
    cases hgate : s.reports.gateOpen with
    | false => exact (if_neg (by simp [State.asTaken, hgate])).trans rfl
    | true => exact (if_pos hgate).trans rfl
  case forceJam => exact hasked.answers .forceJam (carryControl State.requestJam) rfl
  case hold =>
    obtain ⟨t, ht, hreplied⟩ := hasked.answers .hold (carryControl State.holdTracker) rfl
    have hu : (s.asTaken rest).holdTracker = _ := State.holdTracker_of_clear hhold
    rw [hu] at hreplied
    refine ⟨_, t, ht, rfl, .of_latchAll ?_ rfl, hreplied⟩
    exact List.Nodup.sublist s.lockLost_sublist (by decide)
  case held =>
    exact hasked.answers .hold (carryControl State.holdTracker) (congrArg carriedOut (if_pos hhold))
  case notHeld =>
    exact hasked.answers .resume (carryControl State.resumeTracker)
      (congrArg carriedOut (if_neg (show ¬ s.tracker.hold = true by rw [hhold]; decide)))
  case resume =>
    exact hasked.answers .resume (carryControl State.resumeTracker) (congrArg carriedOut (if_pos hhold))
  case noAnchor =>
    refine hasked.answers .anchor (carryDropControl (fun d u => u.requestAnchor d)) ?_
    rw [carryDropControl_of_index hindex]
    exact congrArg carriedOut (if_neg fun h => (s.drop d).line.enabled_iff.mp h hdisabled)
  case anchor =>
    obtain ⟨t, ht, hreplied⟩ := hasked.answers .anchor (carryDropControl (fun d u => u.requestAnchor d))
      (carryDropControl_of_index hindex _ _)
    have hu : (s.asTaken rest).requestAnchor d
        = (s.asTaken rest).updDrop d (fun x => { x with cadence := { x.cadence with pendingAnchor := true } }) :=
      if_pos ((s.drop d).line.enabled_iff.mpr henabled)
    rw [hu] at hreplied
    exact ⟨_, t, ht, State.onlyDrop_updDrop _ d _, State.drop_updDrop_self (s.asTaken rest) d _, hreplied⟩
end

section
/-! SUPPORT. What a profile or an anchor does as it applies, and what a boundary event does (R54, R57, R60, R61, R64, R98,
R100): each operation of the model against the predicate that states it. -/

namespace Sys2Proof.Machine

/- One proof after another: a thread for each would take more memory than a check has. -/
set_option Elab.async false

/-! ## The lines of a drop that stays enabled (R98) -/

/-- The first part of an apply at a line: a change of its settings ends what is on it. -/
def Line.cutOff (changed : Bool) (l : Line) : Line := if changed then (l.abort true).clearShift else l

/-- The second part: the activity flag goes with the line function. -/
def Line.forgetActivity (changed : Bool) (l : Line) : Line := if changed then { l with activity := false } else l

/-- The third part: NONE empties the slot and the queue, DEVICE clocking ends a wait, and a changed PART clocking starts one
with the holding register full. -/
def Line.waitAgain (new : Profile) (changed : Bool) (l : Line) : Line :=
  if new.lineFunction == .none then { l with slot := none, copyQueue := [], wait := false }
  else if new.clocking == .device then { l with wait := false }
  else if changed && l.holding.isSome && !l.wait then l.startWait
  else l

/-- The last part: without frame feed no FRAME waits. -/
def Line.feeds (new : Profile) (l : Line) : Line := if new.frameFeed then l else { l with slot := none }

/-- A setting of a drop's lines changes (R98). -/
def linesChange (old new : Profile) : Bool :=
  old.lineFunction != new.lineFunction || old.clocking != new.clocking || old.lineRate != new.lineRate

theorem Line.applied_eq (old new : Profile) (l : Line) :
    l.applied old new =
      (((l.cutOff (linesChange old new)).forgetActivity (old.lineFunction != new.lineFunction)).waitAgain new
        (linesChange old new)).feeds new := rfl

theorem linesChange_iff (old new : Profile) :
    linesChange old new = true ↔
      new.lineFunction ≠ old.lineFunction ∨ new.clocking ≠ old.clocking ∨ new.lineRate ≠ old.lineRate := by
  simp only [linesChange, Bool.or_eq_true, bne_iff_ne, or_assoc, ne_comm]

theorem Line.cutOff_eq (changed : Bool) (l : Line) :
    l.cutOff changed = { l with
      shift := if changed then .hunting else l.shift,
      receiveStall := if changed then 0 else l.receiveStall,
      transmission := if changed then none else l.transmission,
      transmitStall := if changed = true ∧ l.transmission ≠ none then 0 else l.transmitStall,
      counters := { l.counters with
        transmitAborts := if changed = true ∧ l.transmission ≠ none then min 65535 (l.counters.transmitAborts + 1)
          else l.counters.transmitAborts } } := by
  cases changed with
  | false => rfl
  | true =>
    obtain ⟨state, shift, stall, holding, slot, queue, transmission, tstall, wait, quiet, activity, counters⟩ := l
    cases transmission <;> rfl

theorem Line.forgetActivity_eq (old new : LineFunction) (l : Line) :
    l.forgetActivity (old != new) = { l with activity := if new = old then l.activity else false } := by
  unfold Line.forgetActivity
  by_cases h : new = old
  · rw [if_pos h, h, bne_self_eq_false]
    rfl
  · rw [if_neg h, if_pos (bne_iff_ne.mpr (Ne.symm h))]

theorem Line.waitAgain_eq (new : Profile) (changed : Bool) (l : Line) :
    l.waitAgain new changed = { l with
      slot := if new.lineFunction = .packet then l.slot else none,
      copyQueue := if new.lineFunction = .packet then l.copyQueue else [],
      wait := new.lineFunction == .packet && new.clocking == .part && (l.wait || (changed && l.holding != none)),
      counters := { l.counters with
        waits := if changed = true ∧ new.lineFunction = .packet ∧ new.clocking = .part ∧ l.holding ≠ none ∧ l.wait = false
          then min 65535 (l.counters.waits + 1) else l.counters.waits } } := by
  unfold Line.waitAgain
  cases new.lineFunction with
  | none => simp
  | packet =>
    cases new.clocking with
    | device => simp
    | part =>
      obtain ⟨state, shift, stall, holding, slot, queue, transmission, tstall, wait, quiet, activity, counters⟩ := l
      cases wait with
      | true => simp
      | false => cases holding <;> cases changed <;> rfl

theorem Line.applied_takes (old p : Profile) (l : Line) : LineTakes old p l (l.applied old p) := by
  refine ⟨linesChange old p, linesChange_iff old p, ?_⟩
  have hslot (l : Line) : l.feeds p = { l with slot := if p.frameFeed = true then l.slot else none } := by
    unfold Line.feeds
    cases p.frameFeed <;> rfl
  rw [Line.applied_eq, hslot, Line.waitAgain_eq, Line.forgetActivity_eq, Line.cutOff_eq]
  dsimp only
  have hfeeds : (if p.frameFeed = true then if p.lineFunction = .packet then l.slot else none else none)
      = if p.lineFunction = .packet ∧ p.frameFeed = true then l.slot else none := by
    rw [ite_and]
    cases p.frameFeed <;> simp
  rw [hfeeds]

/-! ## The DF line (R64) -/

theorem DfLine.applied_takes (old f : DfFunction) (x : DfLine) : DfTakes old f x (x.applied old f) := by
  unfold DfTakes
  cases f with
  | pulse => cases old <;> rfl
  | word => rfl
  | hold => cases old <;> rfl
  | low => rfl
  | high => rfl

theorem DfLine.atBoundary_reaches (p : Profile) (boundary : Nat) (waited : Bool) (x : DfLine) :
    EventReachesDf p boundary waited x (x.atBoundary p boundary waited) := by
  unfold EventReachesDf DfLine.atBoundary
  cases p.dfFunction with
  | pulse => by_cases h : p.pulseWidth = 0 <;> simp [h]
  | word => rfl
  | hold => cases waited <;> rfl
  | low => rfl
  | high => rfl

/-! ## Delivery sets and other drop state -/

/-- An update of drops before the sets change is one after it. -/
theorem SetsChange.updDrop {f : Held → Held} {s t : State} (h : SetsChange f s t) (d : DropId) (g : Drop → Drop) :
    SetsChange f (s.updDrop d g) (t.updDrop d g) := by
  obtain ⟨hframe, hregions⟩ := h
  refine ⟨?_, hregions⟩
  generalize hr : t.store.regions = r at hframe
  subst hframe
  rfl

theorem SetsChange.drops {f : Held → Held} {s t : State} (h : SetsChange f s t) : t.drops = s.drops := by
  obtain ⟨hframe, -⟩ := h
  rw [hframe]

theorem State.leaveUnqueuedSets_setsChange (s : State) (d : DropId) :
    SetsChange (fun h => if h.serial ∈ (s.drop d).line.copyQueue then h else { h with drops := h.drops &&& ~~~(maskOf d) })
      s (s.leaveUnqueuedSets d) :=
  (s.strip_setsChange _).congr fun _ => if_congr List.contains_iff_mem.symm rfl rfl

theorem State.leaveSets_setsChange (s : State) (d : DropId) :
    SetsChange (fun h => { h with drops := h.drops &&& ~~~(maskOf d) }) s (s.leaveSets d) :=
  s.strip_setsChange _

/-! ## Applies (R57, R60, R61) -/

theorem Cadence.anchoredAt_spec (p : Profile) (h : Nat) (c : Cadence) : AnchoredAt p h c (c.anchoredAt p h) := ⟨_, rfl, rfl⟩

/-- A drop that goes on under the profile `p`, `old` being in force before, but for the filling of its queue (R60 step 3). -/
def Drop.goesOn (old p : Profile) (h : Nat) (x : Drop) : Drop :=
  { x with
    cadence := x.cadence.anchoredAt p h, line := x.line.applied old p, df := x.df.applied old.dfFunction p.dfFunction }

theorem State.settleEnabled_goesOn (s : State) (d : DropId) (old p : Profile) (hp : (s.drop d).profile = p) :
    GoesOnUnder d old p s (s.settleEnabled d old p) := by
  let lined : State := (s.updCadence d (fun c => c.anchoredAt p s.clock.time)).updLine d (Line.applied old p)
  let apart : State := if old.role == .edit && p.role != .edit then lined.leaveUnqueuedSets d else lined
  have hlined : lined.drop d = { s.drop d with
      cadence := (s.drop d).cadence.anchoredAt p s.clock.time, line := (s.drop d).line.applied old p } := by
    have hupd : lined = s.updDrop d (fun x => { x with
        cadence := x.cadence.anchoredAt p s.clock.time, line := x.line.applied old p }) :=
      s.updDrop_updDrop d _ _
    rw [hupd, State.drop_updDrop_self]
  have hdf (u : State) (hu : u.drops = lined.drops) :
      u.applyDf d old.dfFunction = u.updDf d (fun x => x.applied old.dfFunction p.dfFunction) := by
    unfold State.applyDf
    rw [State.drop_eq_of_drops hu, hlined]
    dsimp only
    rw [hp]
  have hsettled : lined.updDf d (fun x => x.applied old.dfFunction p.dfFunction)
      = s.updDrop d (fun _ => (s.drop d).goesOn old p s.clock.time) := by
    have hupd : lined.updDf d (fun x => x.applied old.dfFunction p.dfFunction)
        = s.updDrop d (Drop.goesOn old p s.clock.time) :=
      (congrArg (fun u => State.updDf u d _) (s.updDrop_updDrop d _ _)).trans (s.updDrop_updDrop d _ _)
    rw [hupd]
    exact s.updDrop_congr d rfl
  have hdrops : apart.drops = lined.drops := by
    unfold apart
    split
    · exact (lined.leaveUnqueuedSets_setsChange d).drops
    · rfl
  have hmodel : s.settleEnabled d old p = (apart.updDf d (fun x => x.applied old.dfFunction p.dfFunction)).fill d :=
    congrArg (fun u => State.fill u d) (hdf apart hdrops)
  have hdrop : (apart.updDf d (fun x => x.applied old.dfFunction p.dfFunction)).drop d
      = (s.drop d).goesOn old p s.clock.time := by
    rw [State.drop_updDf, if_pos rfl, State.drop_eq_of_drops hdrops, hlined]
    rfl
  refine ⟨(s.drop d).goesOn old p s.clock.time, apart.updDf d (fun x => x.applied old.dfFunction p.dfFunction), hp, rfl,
    Cadence.anchoredAt_spec p s.clock.time _, Line.applied_takes old p _, DfLine.applied_takes _ _ _, ?sets, ?only, ?filled⟩
  case sets =>
    by_cases hrole : old.role = .edit ∧ p.role ≠ .edit
    · rw [if_pos hrole, ← hsettled]
      have hapart : apart = lined.leaveUnqueuedSets d := if_pos (by simpa using hrole)
      have hchange := (lined.leaveUnqueuedSets_setsChange d).updDrop d (fun x => { x with
        df := x.df.applied old.dfFunction p.dfFunction })
      rw [← hapart, hlined] at hchange
      exact hchange
    · rw [if_neg hrole, ← hsettled]
      have hapart : apart = lined := if_neg (by simpa using hrole)
      rw [hapart]
  case only =>
    rw [hmodel]
    exact State.fill_onlyDrop _ d
  case filled =>
    rw [hmodel, ← hdrop]
    exact State.fill_filledFrom _ d

/-- The intake holds a packet of the drop (R108). -/
def State.atIntake (s : State) (d : DropId) : Bool := s.intake.inProcess.map InProcess.source == some d

/-- The intake without a packet of the drop in process. -/
def State.withoutPacketOf (s : State) (d : DropId) : State :=
  { s with intake := { s.intake with inProcess := if s.atIntake d then none else s.intake.inProcess } }

/-- One more packet flushed, if `flushed`. -/
def Line.countFlushed (flushed : Bool) (l : Line) : Line :=
  { l with counters := { l.counters with
      flushed := if flushed then satInc16 l.counters.flushed else l.counters.flushed } }

/-- A packet of the drop at the intake is flushed and counted (R108). -/
theorem State.freeIntake_eq (s : State) (d : DropId) :
    s.freeIntake d = (s.withoutPacketOf d).updLine d (Line.countFlushed (s.atIntake d)) := by
  have hnone (h : s.atIntake d = false) : (s.withoutPacketOf d).updLine d (Line.countFlushed (s.atIntake d)) = s := by
    rw [State.withoutPacketOf, h]
    exact s.updDrop_same d _ rfl
  have hmem : s.atIntake d = (s.intake.inProcess.map InProcess.source == some d) := rfl
  unfold State.freeIntake
  cases hin : s.intake.inProcess with
  | none => exact (hnone (by rw [hmem, hin]; rfl)).symm
  | some ip =>
    by_cases hip : ip.source = d
    · have his : s.atIntake d = true := by rw [hmem, hin]; simpa using hip
      rw [State.withoutPacketOf, his]
      exact if_pos hip
    · exact (if_neg hip).trans (hnone (by rw [hmem, hin]; simpa using hip)).symm

/-- What becomes of a DISABLED drop's lines, with the packet at the intake flushed too (R100, R108). -/
theorem Line.disabled_eq (atIntake : Bool) (l : Line) :
    l.disabled.countFlushed atIntake =
      { l with
        state := .disabled, shift := .hunting, receiveStall := 0, holding := none, wait := false, slot := none,
        copyQueue := [], transmission := none,
        transmitStall := if l.transmission = none then l.transmitStall else 0,
        counters := { l.counters with
          transmitAborts := if l.transmission = none then l.counters.transmitAborts
            else min 65535 (l.counters.transmitAborts + 1),
          flushed :=
            if l.holding = none then (if atIntake then min 65535 (l.counters.flushed + 1) else l.counters.flushed)
            else if atIntake then min 65535 (min 65535 (l.counters.flushed + 1) + 1)
            else min 65535 (l.counters.flushed + 1) } } := by
  obtain ⟨state, shift, stall, holding, slot, queue, transmission, tstall, wait, quiet, activity, counters⟩ := l
  cases holding with
  | none => cases transmission <;> cases atIntake <;> rfl
  | some _ => cases transmission <;> cases atIntake <;> rfl

/-- A drop that becomes DISABLED, but for the delivery sets (R60 step 4, R100, R108). -/
def Drop.ends (atIntake : Bool) (x : Drop) : Drop :=
  { x with
    cadence := { x.cadence with pendingAnchor := false },
    df := { x.df with level := false, pulseEnd := none, waitsForBoundary := false },
    line := x.line.disabled.countFlushed atIntake }

theorem State.settleDisabled_becomes (s : State) (d : DropId) : BecomesDisabled d s (s.settleDisabled d) := by
  let emptied : State :=
    ((s.updLine d Line.disabled).updDf d (fun x => { x.lowered with waitsForBoundary := false })).freeIntake d
  have hemptied : emptied.updCadence d (fun c => { c with pendingAnchor := false })
      = (s.withoutPacketOf d).updDrop d (Drop.ends (s.atIntake d)) := by
    have hfree : emptied = (((s.withoutPacketOf d).updLine d Line.disabled).updDf d
        (fun x => { x.lowered with waitsForBoundary := false })).updLine d (Line.countFlushed (s.atIntake d)) :=
      State.freeIntake_eq _ d
    rw [hfree, State.updLine, State.updDf, State.updLine, State.updCadence, State.updDrop_updDrop, State.updDrop_updDrop,
      State.updDrop_updDrop]
    rfl
  have hchange : SetsChange _ (emptied.updCadence d (fun c => { c with pendingAnchor := false })) (s.settleDisabled d) :=
    (emptied.leaveSets_setsChange d).updDrop d _
  rw [hemptied] at hchange
  refine ⟨(s.drop d).line, (s.drop d).line.counters, s.atIntake d, rfl, rfl, beq_iff_eq, ?_⟩
  refine Eq.mp (congrArg (SetsChange _ · _) (State.updDrop_congr (s.withoutPacketOf d) d ?_)) hchange
  show Drop.ends (s.atIntake d) (s.drop d) = _
  rw [Drop.ends, Line.disabled_eq]
  rfl

theorem guardedChange_iff (x y : Profile) : guardedChange x y = true ↔ GuardedChange x y := by
  simp only [guardedChange, GuardedChange, Bool.or_eq_true, bne_iff_ne, or_assoc]

theorem GuardedChange.symm {x y : Profile} (h : GuardedChange x y) : GuardedChange y x :=
  h.imp Ne.symm (Or.imp Ne.symm (Or.imp Ne.symm (Or.imp Ne.symm Ne.symm)))

/-- Making the synthesized CUT reaches of the drops, their takes closed, only the copies. -/
theorem State.closeWithCut_copiesChange (s : State) (d : DropId) (reason : CloseReason) (p : Profile) (anchor : Int) :
    (s.closeTake d reason).CopiesChange (s.closeWithCut d reason p anchor) :=
  State.createItem_copiesChange _ d _

theorem State.drop_closeTake_self (s : State) (d : DropId) (reason : CloseReason) :
    (s.closeTake d reason).drop d = { s.drop d with take := { (s.drop d).take with state := .idle, lastClose := reason } } := by
  obtain ⟨-, -, hdrop⟩ := s.closeTake_closes d reason
  exact hdrop

theorem State.drop_closeTake_ne (s : State) {d e : DropId} (reason : CloseReason) (h : e ≠ d) :
    (s.closeTake d reason).drop e = s.drop e := by
  obtain ⟨-, hothers, -⟩ := s.closeTake_closes d reason
  exact hothers e h

theorem State.drop_withProfile (s : State) (d : DropId) (p : Profile) :
    (s.withProfile d p).drop d
      = { s.drop d with profile := p, cadence := { (s.drop d).cadence with pendingProfile := none } } :=
  State.drop_updDrop_self s d _

/-- A pending profile comes into force; a take whose guarded field it changes closes (R60 steps 1 and 2). -/
theorem State.adoptProfile_eq (s : State) (d : DropId) (p : Profile) :
    s.adoptProfile d p =
      if s.rolling d && guardedChange (s.drop d).profile p then
        (s.withProfile d p).closeWithCut d .reprofile (s.drop d).profile (s.drop d).cadence.anchor
      else s.withProfile d p := by
  have hstate : (s.updProfile d (fun _ => p)).updCadence d (fun c => { c with pendingProfile := none }) = s.withProfile d p :=
    s.updDrop_updDrop d _ _
  have hrolling : (s.withProfile d p).rolling d = s.rolling d := by
    unfold State.rolling
    rw [State.drop_withProfile]
  unfold State.adoptProfile
  dsimp only
  rw [hstate, hrolling]

theorem State.changesGuarded_iff (s : State) (d : DropId) (p : Profile) :
    (s.rolling d && guardedChange (s.drop d).profile p) = true ↔
      (s.drop d).take.state = .rolling ∧ GuardedChange (s.drop d).profile p := by
  rw [Bool.and_eq_true, guardedChange_iff, State.rolling_eq_true_iff]

theorem State.profile_adoptProfile (s : State) (d : DropId) (p : Profile) : ((s.adoptProfile d p).drop d).profile = p := by
  rw [State.adoptProfile_eq]
  split
  · rw [((s.withProfile d p).closeWithCut_copiesChange d _ _ _ d).profile, State.drop_closeTake_self, State.drop_withProfile]
  · rw [State.drop_withProfile]

theorem State.applyProfile_applies (s : State) (d : DropId) (p : Profile) : ProfileApplies d p s (s.applyProfile d p) := by
  refine ⟨s.adoptProfile d p, fun h => ?closes, fun h => ?stays, ?settles⟩
  case closes =>
    rw [State.adoptProfile_eq, if_pos ((s.changesGuarded_iff d p).mpr h)]
    exact State.closeWithCut_closes _ d _ _ _
  case stays => rw [State.adoptProfile_eq, if_neg (mt (s.changesGuarded_iff d p).mp h)]
  case settles =>
    unfold State.applyProfile
    dsimp only
    split
    · exact State.settleEnabled_goesOn _ d _ p (s.profile_adoptProfile d p)
    · exact State.settleDisabled_becomes _ d

/-- A DISABLED drop as an enabled profile is loaded to it, but for the filling of its queue (R57, R100). -/
def Drop.loaded (p : Profile) (h : Nat) (x : Drop) : Drop :=
  { x with
    profile := p, cadence := x.cadence.anchoredAt p h, df := DfLine.fromDisabled p.dfFunction,
    line := { x.line with state := .active, quietTimer := 0, activity := false } }

theorem State.loadDisabled_of_enabled (s : State) (d : DropId) {p : Profile} (hp : p.enabled = true) :
    s.loadDisabled d p = (s.updDrop d (Drop.loaded p s.clock.time)).fill d := by
  refine (if_pos hp).trans (congrArg (fun u => State.fill u d) ?_)
  rw [State.updProfile, State.updCadence, State.updDf, State.updLine, State.updDrop_updDrop, State.updDrop_updDrop,
    State.updDrop_updDrop]
  rfl

theorem State.loadDisabled_of_disabled (s : State) (d : DropId) {p : Profile} (hp : p.enabled = false) :
    s.loadDisabled d p = s.updDrop d (fun x => { x with profile := p }) :=
  if_neg (by rw [hp]; decide)

end Sys2Proof.Machine

open Sys2Proof Sys2Proof.Machine

/-- Settles O53: the judgements of a PROFILE record, and what an accepted one does to a running and to a DISABLED drop. -/
theorem loadProfileAccepted : Obligations.LoadProfileAccepted := by
  unfold Obligations.LoadProfileAccepted
  intro s r rest d hasked hindex hlength
  have hown : carryLoad .profile ownLoadProfile r (s.asTaken rest) = ownLoadProfile d.val r.record (s.asTaken rest) := by
    rw [carryLoad_of_inRange (t := .profile) (hindex.trans_lt d.isLt) (by rw [hlength]; rfl), hindex]
  refine ⟨fun hbad => ?range, fun p f hp hf => ?judged⟩
  case range =>
    refine hasked.answers .loadProfile _ (hown.trans ?_)
    rw [ownLoadProfile, hbad]
    rfl
  have hjudged : ownLoadProfile d.val r.record (s.asTaken rest) =
      if s.guardRefuses d p r.record then refuseWith (s.asTaken rest) .guarded
      else { state := (s.asTaken rest).acceptProfile d p, reply := some f } := by
    rw [ownLoadProfile, hp, dropOf_val, hf]
    rfl
  have hguard : s.guardRefuses d p r.record = true ↔
      (s.drop d).take.state = .rolling ∧ GuardedChange p (s.drop d).profile ∧ forceFlag r.record = false := by
    rw [State.guardRefuses, Bool.and_eq_true, Bool.and_eq_true, State.rolling_eq_true_iff, guardedChange_iff,
      Bool.not_eq_true', and_assoc]
    exact and_congr_right fun _ => and_congr_left fun _ => ⟨GuardedChange.symm, GuardedChange.symm⟩
  refine ⟨fun hrolling hforce hchange => ?guarded, fun haccepted => ?accepted⟩
  case guarded =>
    exact hasked.answers .loadProfile _ (hown.trans (hjudged.trans (if_pos (hguard.mpr ⟨hrolling, hchange, hforce⟩))))
  case accepted =>
    have hfree : ¬ s.guardRefuses d p r.record = true := by
      rw [hguard]
      rintro ⟨hrolling, hchange, hforce⟩
      rcases haccepted with hidle | hforced | hnot
      · exact absurd (hidle.symm.trans hrolling) (by decide)
      · exact Bool.false_ne_true (hforce.symm.trans hforced)
      · exact hnot hchange
    have hanswer := hasked.answers .loadProfile _ (hown.trans (hjudged.trans (if_neg hfree)))
    have hdisabled (h : (s.drop d).line.state = .disabled) :
        (s.asTaken rest).acceptProfile d p = (s.asTaken rest).loadDisabled d p :=
      if_neg fun henabled => (s.drop d).line.enabled_iff.mp henabled h
    refine ⟨fun hruns => ?running, fun hoff hnot => ?staysOff, fun hoff hon => ?starts⟩
    case running =>
      have hpending : (s.asTaken rest).acceptProfile d p
          = (s.asTaken rest).updDrop d (fun x => { x with cadence := { x.cadence with pendingProfile := some p } }) :=
        if_pos ((s.drop d).line.enabled_iff.mpr hruns)
      rw [← hpending]
      exact hanswer
    case staysOff =>
      rw [hdisabled hoff, State.loadDisabled_of_disabled _ d hnot] at hanswer
      exact hanswer
    case starts =>
      rw [hdisabled hoff, State.loadDisabled_of_enabled _ d hon] at hanswer
      obtain ⟨t, ht, hreplied⟩ := hanswer
      have hdrop : ((s.asTaken rest).updDrop d (Drop.loaded p s.clock.time)).drop d
          = Drop.loaded p s.clock.time (s.drop d) := State.drop_updDrop_self (s.asTaken rest) d _
      have hfilled := State.fill_filledFrom ((s.asTaken rest).updDrop d (Drop.loaded p s.clock.time)) d
      rw [hdrop] at hfilled
      exact ⟨_, _, t, ht, ((s.asTaken rest).onlyDrop_updDrop d _).trans (State.fill_onlyDrop _ d),
        Cadence.anchoredAt_spec p s.clock.time (s.drop d).cadence, hfilled, hreplied⟩
end

section
/-! SUPPORT. The drop boundary event (R54): steps 2 to 4 as one change of the drop, with the dormancy that its quiet timer may
bring, after each of the three ways in which the event begins. -/

namespace Sys2Proof.Machine

/- One proof after another: a thread for each would take more memory than a check has. -/
set_option Elab.async false

/-! ## Takes that close do not look at the cadence unit -/

theorem State.drop_updCadence_take (s : State) (d e : DropId) (f : Cadence → Cadence) :
    ((s.updCadence d f).drop e).take = (s.drop e).take := by
  rw [State.drop_updCadence]
  split <;> rfl

theorem State.closeTake_updCadence (s : State) (d e : DropId) (reason : CloseReason) (f : Cadence → Cadence) :
    (s.updCadence e f).closeTake d reason = (s.closeTake d reason).updCadence e f := by
  let close : Take → Take := fun t => { t with state := .idle, lastClose := reason }
  have hswap : (s.updCadence e f).updTake d close = (s.updTake d close).updCadence e f := s.updDrop_comm e d fun _ => rfl
  have hcount (u : State) : (u.updCadence e f).rollingCount = u.rollingCount := by
    unfold State.rollingCount State.rolling
    simp only [State.drop_updCadence_take]
  show ((s.updCadence e f).updTake d close).announceGuard = (s.updTake d close).announceGuard.updCadence e f
  rw [hswap, State.announceGuard, hcount]
  rfl

theorem State.closeWithCut_updCadence (s : State) (d e : DropId) (reason : CloseReason) (p : Profile) (anchor : Int)
    (f : Cadence → Cadence) :
    (s.updCadence e f).closeWithCut d reason p anchor = (s.closeWithCut d reason p anchor).updCadence e f := by
  unfold State.closeWithCut
  dsimp only
  rw [State.closeTake_updCadence, State.drop_updCadence_take]
  exact (offLine_cadence f).createItem_updDrop _ d e _

/-! ## Dormancy (R97) -/

/-- The lines of a drop that goes DORMANT. -/
def Line.dormant (l : Line) : Line :=
  { l with
    state := .dormant, slot := none,
    counters := { l.counters with dormancies := min 65535 (l.counters.dormancies + 1) } }

theorem State.goDormant_eq (s : State) (d : DropId) (p : Profile) (anchor : Int) :
    s.goDormant d p anchor =
      if s.rolling d then ((s.updLine d Line.dormant).closeWithCut d .lost p anchor).latch .takeLost (some d)
      else s.updLine d Line.dormant := by
  have hrolling : (s.updLine d Line.dormant).rolling d = s.rolling d := by
    unfold State.rolling
    rw [State.drop_updLine, if_pos rfl]
  rw [← hrolling]
  rfl

theorem State.goDormant_goes (s : State) (d : DropId) (p : Profile) (anchor : Int) :
    GoesDormant d p anchor s (s.goDormant d p anchor) := by
  refine ⟨s.updLine d Line.dormant, rfl, fun hidle => ?idle, fun hrolling => ?rolling⟩
  case idle =>
    rw [State.goDormant_eq, if_neg]
    exact mt (s.rolling_eq_true_iff d).mp ((Take.idle_iff_not_rolling _).mp hidle)
  case rolling =>
    rw [State.goDormant_eq, if_pos ((s.rolling_eq_true_iff d).mpr hrolling)]
    exact ⟨_, State.closeWithCut_closes _ d .lost p anchor, rfl, State.latch_spec _ _ _⟩

theorem State.goDormant_updCadence (s : State) (d : DropId) (p : Profile) (anchor : Int) (f : Cadence → Cadence) :
    (s.updCadence d f).goDormant d p anchor = (s.goDormant d p anchor).updCadence d f := by
  have hrolling : (s.updCadence d f).rolling d = s.rolling d := by
    unfold State.rolling
    rw [State.drop_updCadence_take]
  have hline : (s.updCadence d f).updLine d Line.dormant = (s.updLine d Line.dormant).updCadence d f :=
    s.updDrop_comm d d fun _ => rfl
  rw [State.goDormant_eq, State.goDormant_eq, hrolling, hline]
  split
  · rw [State.closeWithCut_updCadence]
    rfl
  · rfl

/-! ## The quiet timer (R96) -/

theorem State.updLine_congr (s : State) (d : DropId) {f g : Line → Line} (h : f (s.drop d).line = g (s.drop d).line) :
    s.updLine d f = s.updLine d g := by
  refine s.updDrop_congr d ?_
  exact congrArg (fun l => ({ s.drop d with line := l } : Drop)) h

theorem State.updLine_same (s : State) (d : DropId) {f : Line → Line} (h : f (s.drop d).line = (s.drop d).line) :
    s.updLine d f = s := by
  refine s.updDrop_same d _ ?_
  rw [h]

/-- The quiet timer at a boundary event of a drop `listens` (ACTIVE on PACKET), with a stamp `underWay` or not. -/
def Line.quieted (listens underWay : Bool) (l : Line) : Line :=
  { l with
    activity := if listens then false else l.activity,
    quietTimer := if listens then
        if l.activity = true then 0 else if underWay = true then l.quietTimer else min 255 (l.quietTimer + 1)
      else l.quietTimer }

/-- The drop is ACTIVE on PACKET. -/
def Drop.listens (x : Drop) : Bool := x.line.state == .active && x.profile.lineFunction == .packet

theorem Drop.listens_iff (x : Drop) : x.listens = true ↔ x.line.state = .active ∧ x.profile.lineFunction = .packet := by
  simp only [Drop.listens, Bool.and_eq_true, beq_iff_eq]

/-- The quiet timer at a boundary event, but for the dormancy. -/
def State.quieted (s : State) (d : DropId) : State :=
  s.updLine d (Line.quieted (s.drop d).listens (s.stampUnderWay d))

theorem Line.quieted_of_silent {l : Line} (hactivity : l.activity = false) (underWay : Bool) :
    l.quieted true underWay
      = { l with quietTimer := if underWay = true then l.quietTimer else min 255 (l.quietTimer + 1) } := by
  unfold Line.quieted
  rw [hactivity]
  simp [← hactivity]

theorem State.quietCount_of_due {s : State} {d : DropId} (h : s.DormancyDue d) (p : Profile) (anchor : Int) :
    s.quietCount d p anchor = (s.quieted d).goDormant d p anchor := by
  obtain ⟨⟨hactive, hpacket, hsilent, hthrough⟩, hlimit, hreached⟩ := h
  have hlistens : (s.drop d).listens = true := (s.drop d).listens_iff.mpr ⟨hactive, hpacket⟩
  have hquieted : s.quieted d = s.updLine d (fun l => { l with quietTimer := satInc 255 l.quietTimer }) := by
    refine s.updLine_congr d ?_
    rw [hlistens, hthrough, Line.quieted_of_silent hsilent]
    rfl
  rw [hquieted]
  refine (if_pos hlistens).trans ?_
  rw [if_neg (by rw [hsilent]; decide), if_neg (by rw [hthrough]; decide)]
  refine if_pos ?_
  rw [Bool.and_eq_true, bne_iff_ne, decide_eq_true_eq]
  exact ⟨hlimit, hreached⟩

theorem State.quietCount_of_not_due {s : State} {d : DropId} (h : ¬ s.DormancyDue d) (p : Profile) (anchor : Int) :
    s.quietCount d p anchor = s.quieted d := by
  have hupd {g : Line → Line} (hg : g (s.drop d).line = Line.quieted (s.drop d).listens (s.stampUnderWay d) (s.drop d).line) :
      s.updLine d g = s.quieted d :=
    s.updLine_congr d hg
  have hstays (hg : (s.drop d).line = Line.quieted (s.drop d).listens (s.stampUnderWay d) (s.drop d).line) :
      s = s.quieted d := (s.updLine_same d hg.symm).symm
  unfold State.quietCount
  dsimp only
  split
  next hlistens =>
    have hlistens' : (s.drop d).listens = true := hlistens
    split
    next hactivity => exact hupd (by rw [hlistens', Line.quieted, if_pos hactivity]; rfl)
    next hactivity =>
      have hsilent : (s.drop d).line.activity = false := Bool.eq_false_of_not_eq_true hactivity
      rw [hlistens'] at hupd hstays
      split
      next hthrough => exact hstays (by rw [Line.quieted_of_silent hsilent, if_pos hthrough])
      next hthrough =>
        have hnotThrough : s.stampUnderWay d = false := Bool.eq_false_of_not_eq_true hthrough
        rw [if_neg]
        · exact hupd (by rw [Line.quieted_of_silent hsilent, if_neg hthrough]; rfl)
        · rw [Bool.and_eq_true, bne_iff_ne, decide_eq_true_eq]
          rintro ⟨hlimit, hreached⟩
          obtain ⟨hactive, hpacket⟩ := (s.drop d).listens_iff.mp hlistens'
          exact h ⟨⟨hactive, hpacket, hsilent, hnotThrough⟩, hlimit, hreached⟩
  next hlistens =>
    have hlistens' : (s.drop d).listens = false := Bool.eq_false_of_not_eq_true hlistens
    exact hstays (by rw [hlistens']; rfl)

/-! ## The FRAME of the event (R79, R90, R91) -/

/-- A FRAME fills the slot of a line that takes it, counting the one it replaces. -/
def Line.placed (takes : Bool) (f : Frame) (l : Line) : Line :=
  { l with
    slot := if takes then some { f with skipped := l.slot.isSome } else l.slot,
    counters := { l.counters with
      skips := if takes = true ∧ l.slot ≠ none then min 65535 (l.counters.skips + 1) else l.counters.skips } }

/-- The drop takes FRAMEs: frame feed is on, and it is ACTIVE on PACKET. -/
def Drop.takesFrames (x : Drop) : Bool := x.profile.frameFeed && x.listens

theorem Drop.takesFrames_iff (x : Drop) :
    x.takesFrames = true ↔ x.profile.frameFeed = true ∧ x.line.state = .active ∧ x.profile.lineFunction = .packet := by
  rw [Drop.takesFrames, Bool.and_eq_true, Drop.listens_iff]

theorem State.placeFrame_eq (s : State) (d : DropId) {f : Frame} (hf : f.skipped = false) :
    s.placeFrame d f = s.updLine d (Line.placed (s.drop d).takesFrames f) := by
  have hupd {g : Line → Line} (hg : g (s.drop d).line = Line.placed (s.drop d).takesFrames f (s.drop d).line) :
      s.updLine d g = s.updLine d (Line.placed (s.drop d).takesFrames f) :=
    s.updLine_congr d hg
  have hcond : ((s.drop d).profile.frameFeed && (s.drop d).line.state == .active && (s.drop d).profile.lineFunction == .packet)
      = (s.drop d).takesFrames := Bool.and_assoc _ _ _
  unfold State.placeFrame
  dsimp only
  rw [hcond]
  split
  next htakes =>
    refine hupd ?_
    rw [htakes]
    generalize (s.drop d).line = l
    obtain ⟨state, shift, stall, holding, slot, queue, transmission, tstall, wait, quiet, activity, counters⟩ := l
    cases slot with
    | none =>
      have hsame : { f with skipped := false } = f := by rw [← hf]
      simp [Line.placed, hsame]
    | some _ => rfl
  next htakes =>
    rw [Bool.eq_false_of_not_eq_true htakes]
    exact (s.updDrop_same d _ rfl).symm

/-! ## Steps 2 to 4 of the event (R54) -/

/-- The drop after steps 2 to 4, but for a dormancy. -/
def Drop.frameBegun (f : Frame) (n boundary : Nat) (waited underWay : Bool) (x : Drop) : Drop :=
  { x with
    cadence := { x.cadence with lastFrame := n, stepped := false },
    df := x.df.atBoundary x.profile boundary waited,
    line := (x.line.placed x.takesFrames f).quieted x.listens underWay }

/-- The state after steps 2 to 4, but for a dormancy. -/
def State.frameBegun (s : State) (d : DropId) (n time boundary : Nat) (waited : Bool) : State :=
  s.updDrop d (Drop.frameBegun (s.composeFrame d n time) n boundary waited (s.stampUnderWay d))

theorem State.frameBegun_begins (s : State) (d : DropId) (n time boundary : Nat) (waited : Bool) :
    FrameBegins d n time boundary waited s (s.frameBegun d n time boundary waited) := by
  have hdrop : (s.frameBegun d n time boundary waited).drop d
      = (s.drop d).frameBegun (s.composeFrame d n time) n boundary waited (s.stampUnderWay d) :=
    State.drop_updDrop_self s d _
  refine ⟨{ s.composeFrame d n time with skipped := (s.drop d).line.slot.isSome }, _, _, ⟨_, _, rfl, rfl, rfl⟩, rfl, rfl,
    s.onlyDrop_updDrop d _, ?_⟩
  rw [hdrop]
  refine ⟨rfl, rfl, rfl, DfLine.atBoundary_reaches _ boundary waited _, ?_⟩
  simp only [Drop.frameBegun, Line.quieted, Line.placed, Drop.takesFrames_iff, Drop.listens_iff, and_assoc]

theorem State.finishBoundary_eq (s : State) (d : DropId) (n time boundary : Nat) (waited : Bool) (p : Profile) (anchor : Int) :
    (s.DormancyDue d → s.finishBoundary d n time boundary waited p anchor
        = (s.frameBegun d n time boundary waited).goDormant d p anchor)
    ∧ (¬ s.DormancyDue d → s.finishBoundary d n time boundary waited p anchor = s.frameBegun d n time boundary waited) := by
  let onward : Cadence → Cadence := fun c => { c with lastFrame := n, stepped := false }
  let placed : State := s.updLine d (Line.placed (s.drop d).takesFrames (s.composeFrame d n time))
  let risen : State := placed.updDf d (DfLine.atBoundary (s.drop d).profile boundary waited)
  have hplaced : placed.drop d = { s.drop d with
      line := (s.drop d).line.placed (s.drop d).takesFrames (s.composeFrame d n time) } := s.drop_updLine_self d _
  have hrisen : risen.drop d = { s.drop d with
      line := (s.drop d).line.placed (s.drop d).takesFrames (s.composeFrame d n time),
      df := (s.drop d).df.atBoundary (s.drop d).profile boundary waited } := by
    rw [State.drop_updDf, if_pos rfl, hplaced]
  have hmodel : s.finishBoundary d n time boundary waited p anchor = (risen.quietCount d p anchor).updCadence d onward := by
    have hplace : s.placeFrame d (s.composeFrame d n time) = placed := s.placeFrame_eq d rfl
    unfold State.finishBoundary
    dsimp only
    rw [hplace, hplaced]
  have hthrough : risen.stampUnderWay d = s.stampUnderWay d := by
    unfold State.stampUnderWay
    rw [hrisen]
    rfl
  have hdue : risen.DormancyDue d ↔ s.DormancyDue d := by
    unfold State.DormancyDue State.QuietCounts
    rw [hthrough, hrisen]
    exact Iff.rfl
  have hbegun : (risen.quieted d).updCadence d onward = s.frameBegun d n time boundary waited := by
    have hquieted : risen.quieted d = risen.updLine d (Line.quieted (s.drop d).listens (s.stampUnderWay d)) := by
      unfold State.quieted
      rw [hthrough, hrisen]
      rfl
    rw [hquieted]
    unfold risen placed State.frameBegun
    rw [State.updLine, State.updLine, State.updDf, State.updCadence, State.updDrop_updDrop, State.updDrop_updDrop,
      State.updDrop_updDrop]
    exact s.updDrop_congr d rfl
  refine ⟨fun h => ?due, fun h => ?notDue⟩
  case due => rw [hmodel, State.quietCount_of_due (hdue.mpr h), ← State.goDormant_updCadence, hbegun]
  case notDue => rw [hmodel, State.quietCount_of_not_due (mt hdue.mp h), hbegun]

theorem State.finishBoundary_ends (s : State) (d : DropId) (n time boundary : Nat) (waited : Bool) (p : Profile)
    (anchor : Int) :
    EventEnds d n time boundary waited p anchor s (s.finishBoundary d n time boundary waited p anchor) := by
  obtain ⟨hdue, hnot⟩ := s.finishBoundary_eq d n time boundary waited p anchor
  refine ⟨s.frameBegun d n time boundary waited, s.frameBegun_begins d n time boundary waited, hnot, fun h => ?_⟩
  rw [hdue h]
  exact State.goDormant_goes _ d p anchor

/-! ## The three ways in which an event begins (R54, R60, R61) -/

/-- After an enabled profile has applied, the drop has it in force with house time as its anchor. -/
theorem State.drop_applyProfile_of_enabled (s : State) (d : DropId) {p : Profile} (hp : p.enabled = true) :
    ((s.applyProfile d p).drop d).profile = p ∧ ((s.applyProfile d p).drop d).cadence.anchor = s.clock.time := by
  have happly : s.applyProfile d p = (s.adoptProfile d p).settleEnabled d (s.drop d).profile p := if_pos hp
  have hclock : (s.adoptProfile d p).clock = s.clock := (s.adoptProfile_touches d p).clock rfl
  obtain ⟨x, u, hprofile, -, ⟨target, -, hcadence⟩, -, -, -, -, q, hdrop, -⟩ :=
    State.settleEnabled_goesOn _ d (s.drop d).profile p (s.profile_adoptProfile d p)
  rw [happly, hdrop]
  dsimp only
  rw [hcadence, hclock]
  exact ⟨hprofile, rfl⟩

theorem State.finishFromHouseTime_ends (s : State) (d : DropId) {p : Profile} {h : Nat} (waited : Bool) (old : Profile)
    (anchor : Int) (hprofile : (s.drop d).profile = p) (hanchor : (s.drop d).cadence.anchor = h) (htime : s.clock.time = h) :
    EventEnds d (forward p h h / p.rate.period) (forward p h h) h waited old anchor s
      (s.finishFromHouseTime d waited old anchor) := by
  have hmodel : s.finishFromHouseTime d waited old anchor =
      s.finishBoundary d (frameOf p (forward p h h)) (forward p h h) h waited old anchor := by
    unfold State.finishFromHouseTime
    dsimp only
    rw [hprofile, hanchor, htime]
  rw [hmodel]
  exact s.finishBoundary_ends d _ _ _ _ _ _

theorem State.exec_boundaryEvent {s : State} {d : DropId} (hrun : s.inReset = false)
    (henabled : (s.drop d).line.state ≠ .disabled)
    (hreached : (s.drop d).cadence.boundary ≤ s.clock.time) : exec (.dropBoundaryEvent d) s = .next (s.boundaryEvent d) := by
  rw [exec_running hrun]
  refine congrArg _ (if_pos ?_)
  rw [State.boundaryOutstanding, Bool.and_eq_true, decide_eq_true_eq]
  exact ⟨(s.drop d).line.enabled_iff.mpr henabled, hreached⟩

end Sys2Proof.Machine

open Sys2Proof Sys2Proof.Machine

/-- Settles O16: each of the three beginnings, followed by the steps that all events share. -/
theorem dropBoundaryEvent : Obligations.DropBoundaryEvent := by
  unfold Obligations.DropBoundaryEvent
  rintro s d p c h waited hrun rfl rfl rfl rfl henabled hreached
  rw [s.exec_boundaryEvent hrun henabled hreached]
  refine ⟨fun hnone hanchor => ?nothing, fun hnone hanchor => ?anchor, fun p' hpending => ?profile⟩
  case nothing =>
    let u : State := s.updDrop d (fun x => { x with
      df := { x.df with waitsForBoundary := false },
      cadence := (s.drop d).cadence.fromTarget (s.drop d).profile })
    have hu : (s.followAgain d).updCadence d (fun c => c.fromTarget (s.drop d).profile) = u := by
      rw [State.followAgain, State.updDf, State.updCadence, State.updDrop_updDrop]
      exact s.updDrop_congr d rfl
    have htime : (s.followAgain d).eventTime d
        = if (s.drop d).cadence.stepped = true then
            forward (s.drop d).profile (s.drop d).cadence.anchor s.clock.time
          else (s.drop d).cadence.target := by
      unfold State.eventTime State.followAgain
      rw [State.drop_updDf, if_pos rfl]
      rfl
    have hmodel : s.boundaryEvent d = u.finishBoundary d (frameOf (s.drop d).profile (s.drop d).cadence.target)
        ((s.followAgain d).eventTime d) (s.drop d).cadence.boundary (s.drop d).df.waitsForBoundary (s.drop d).profile
        (s.drop d).cadence.anchor := by
      unfold State.boundaryEvent
      dsimp only
      rw [hnone, hanchor, hu]
      rfl
    refine ⟨u, _, congrArg _ hmodel, rfl, ?_⟩
    rw [htime]
    exact u.finishBoundary_ends d _ _ _ _ _ _
  case anchor =>
    let c' : Cadence := (s.drop d).cadence.anchoredAt (s.drop d).profile s.clock.time
    let u : State := s.updDrop d (fun x => { x with df := { x.df with waitsForBoundary := false }, cadence := c' })
    have hfollow : (s.followAgain d).drop d = { s.drop d with df := { (s.drop d).df with waitsForBoundary := false } } :=
      State.drop_updDrop_self s d _
    have hu : (s.followAgain d).applyAnchor d = u := by
      unfold State.applyAnchor
      rw [hfollow, State.followAgain, State.updDf, State.updCadence, State.updDrop_updDrop]
      exact s.updDrop_congr d rfl
    have hmodel : s.boundaryEvent d =
        u.finishFromHouseTime d (s.drop d).df.waitsForBoundary (s.drop d).profile (s.drop d).cadence.anchor := by
      unfold State.boundaryEvent
      dsimp only
      rw [hnone, hanchor, hu]
      rfl
    have hdrop : u.drop d = { s.drop d with df := { (s.drop d).df with waitsForBoundary := false }, cadence := c' } :=
      State.drop_updDrop_self s d _
    exact ⟨c', u, _, congrArg _ hmodel, Cadence.anchoredAt_spec _ _ _, rfl,
      u.finishFromHouseTime_ends d _ _ _ (by rw [hdrop]) (by rw [hdrop]; rfl) rfl⟩
  case profile =>
    let v : State := s.updDrop d (fun x => { x with df := { x.df with level := s.dfLevel d 0, waitsForBoundary := false } })
    have hv : (s.driveDf d 0).followAgain d = v := by
      rw [State.followAgain, State.driveDf, State.updDf, State.updDf, State.updDrop_updDrop]
    have hmodel : s.boundaryEvent d =
        if p'.enabled then (v.applyProfile d p').finishFromHouseTime d (s.drop d).df.waitsForBoundary (s.drop d).profile
          (s.drop d).cadence.anchor
        else v.applyProfile d p' := by
      unfold State.boundaryEvent
      dsimp only
      rw [hpending, hv]
    have hclock : (v.applyProfile d p').clock.time = s.clock.time :=
      congrArg Clock.time ((v.applyProfile_touches d p').clock rfl)
    refine ⟨v, v.applyProfile d p', _, congrArg _ hmodel, rfl, v.applyProfile_applies d p', fun hon => ?_, fun hoff => ?_⟩
    · rw [if_pos hon]
      obtain ⟨hprofile, hanchor⟩ := v.drop_applyProfile_of_enabled d hon
      exact State.finishFromHouseTime_ends _ d _ _ _ hprofile hanchor hclock
    · rw [hoff]
      rfl

/-- Settles O17: at such an event the dormancy is due, and everything before it reaches the one drop. -/
theorem quietDropGoesDormant : Obligations.QuietDropGoesDormant := by
  unfold Obligations.QuietDropGoesDormant
  rintro s d p c l hrun rfl rfl rfl hquiet hreached hnone hanchor hlimit hdue
  obtain ⟨hactive, hpacket, hsilent, hthrough⟩ := id hquiet
  have henabled : (s.drop d).line.state ≠ .disabled := by
    rw [hactive]
    decide
  obtain ⟨hnothing, -, -⟩ := dropBoundaryEvent s d _ _ _ _ hrun rfl rfl rfl rfl henabled hreached
  obtain ⟨u, t, ht, hu, v, hbegins, -, hdormant⟩ := hnothing hnone hanchor
  have hdrop : u.drop d = { s.drop d with
      df := { (s.drop d).df with waitsForBoundary := false },
      cadence := { (s.drop d).cadence with
        target := (s.drop d).cadence.target + (s.drop d).profile.rate.period,
        boundary := inverse (s.drop d).profile (s.drop d).cadence.anchor
          ((s.drop d).cadence.target + (s.drop d).profile.rate.period) } } := by
    rw [hu, State.drop_updDrop_self]
  have honly : OnlyDrop d s u := hu ▸ s.onlyDrop_updDrop d _
  have hsame : u.stampUnderWay d = s.stampUnderWay d := by
    unfold State.stampUnderWay
    rw [hdrop, hu]
    rfl
  have hdueThere : u.DormancyDue d := by
    unfold State.DormancyDue State.QuietCounts
    rw [hsame, hdrop]
    exact ⟨hquiet, hlimit, hdue⟩
  obtain ⟨f, _, _, -, rfl, rfl, hframe, hprofile, htake, hcadence, hdf, hline⟩ := hbegins
  obtain ⟨w, hw, hidle, hrolling⟩ := hdormant hdueThere
  rw [hdrop] at hprofile htake hcadence hdf hline
  dsimp only at hprofile htake hcadence hdf hline
  have hwdrop : w.drop d = { v.drop d with line := { (v.drop d).line with
      state := .dormant, slot := none,
      counters := { (v.drop d).line.counters with
        dormancies := min 65535 ((v.drop d).line.counters.dormancies + 1) } } } := by
    rw [hw, State.drop_updDrop_self]
  have hwonly : OnlyDrop d v w := hw ▸ v.onlyDrop_updDrop d _
  rw [htake] at hidle hrolling
  refine ⟨w, t, ht, (honly.trans hframe).trans hwonly, ?_, ?_, ?_, ?_, ?_, hidle, hrolling⟩
  · rw [hwdrop]; exact hprofile
  · rw [hwdrop]; exact htake
  · rw [hwdrop]; exact hcadence
  · rw [hwdrop]; exact hdf
  · rw [hwdrop]
    dsimp only
    rw [hline, hsame, hthrough, hsilent, hactive, hpacket]
    simp
end

section
/-! SUPPORT. What the state of a drop allows (R57, R61, R64, R90, R96, R98, R100, R120), kept by every command: one predicate of
a drop and of the packet at the intake, and one relation of states that every operation satisfies. -/

namespace Sys2Proof.Machine

/- One proof after another: a thread for each would take more memory than a check has. -/
set_option Elab.async false

/-! ## The law of one drop -/

/-- A stamp of the drop is somewhere between its first bit and the end of its intake. -/
def Drop.StampIn (atIntake : Bool) (x : Drop) : Prop :=
  x.line.holding ≠ none ∨ x.line.shift = .receiving ∨ atIntake = true

/-- `State.DropLawAt` of a drop, by whether the intake has a packet of it. -/
structure Drop.Lawful (atIntake : Bool) (x : Drop) : Prop where
  disabledIff : x.line.state = .disabled ↔ x.profile.enabled = false
  rolling : x.take.state = .rolling → x.line.state = .active
  stampIn : x.StampIn atIntake → x.line.state = .active
  slot : x.line.slot ≠ none → x.line.state = .active ∧ x.profile.lineFunction = .packet
  queue : x.line.copyQueue ≠ [] → x.line.state ≠ .disabled ∧ x.profile.lineFunction = .packet
  quiet : x.line.state = .disabled →
    x.line.transmission = none ∧ x.df.level = false ∧ x.cadence.pendingProfile = none ∧ x.cadence.pendingAnchor = false

theorem State.stampUnderWay_iff (s : State) (d : DropId) :
    s.stampUnderWay d = true ↔ (s.drop d).StampIn (s.atIntake d) := by
  unfold State.stampUnderWay Drop.StampIn
  rw [Bool.or_eq_true, Bool.or_eq_true, Option.isSome_iff_ne_none, beq_iff_eq, or_assoc]
  exact Iff.rfl

theorem State.dropLawAt_iff (s : State) (d : DropId) : s.DropLawAt d ↔ (s.drop d).Lawful (s.atIntake d) :=
  ⟨fun ⟨h1, h2, h3, h4, h5, h6⟩ => ⟨h1, h2, fun h => h3 ((s.stampUnderWay_iff d).mpr h), h4, h5, h6⟩,
    fun ⟨h1, h2, h3, h4, h5, h6⟩ => ⟨h1, h2, fun h => h3 ((s.stampUnderWay_iff d).mp h), h4, h5, h6⟩⟩

theorem Drop.Lawful.enabled {b : Bool} {x : Drop} (h : x.Lawful b) (hstate : x.line.state ≠ .disabled) :
    x.profile.enabled = true :=
  Bool.eq_true_of_not_eq_false (mt h.disabledIff.mpr hstate)

theorem Drop.StampIn.freed {b : Bool} {x : Drop} (h : x.StampIn false) : x.StampIn b :=
  h.imp id (Or.imp id (fun hfalse => absurd hfalse Bool.false_ne_true))

theorem Drop.Lawful.freed {b : Bool} {x : Drop} (h : x.Lawful b) : x.Lawful false :=
  ⟨h.disabledIff, h.rolling, fun hin => h.stampIn hin.freed, h.slot, h.queue, h.quiet⟩

/-! ## Changes that bring a drop nothing new -/

/-- A line has no packet, FRAME or copy that it did not have, and keeps its drop state. -/
structure Line.NoMore (l l' : Line) : Prop where
  state : l'.state = l.state
  holding : l'.holding ≠ none → l.holding ≠ none
  shift : l'.shift = .receiving → l.shift = .receiving
  slot : l'.slot ≠ none → l.slot ≠ none
  queue : l'.copyQueue ≠ [] → l.copyQueue ≠ []
  transmission : l.transmission = none → l'.transmission = none

theorem Line.NoMore.refl (l : Line) : l.NoMore l := ⟨rfl, id, id, id, id, id⟩

/-- Its profile in force, its line brings nothing new, its take does not open, and one that is DISABLED stays still. -/
structure Drop.NoMore (x y : Drop) : Prop where
  profile : y.profile = x.profile
  line : x.line.NoMore y.line
  take : y.take.state = .rolling → x.take.state = .rolling
  still : x.line.state = .disabled →
    (x.df.level = false → y.df.level = false)
      ∧ (x.cadence.pendingProfile = none → y.cadence.pendingProfile = none)
      ∧ (x.cadence.pendingAnchor = false → y.cadence.pendingAnchor = false)

theorem Drop.NoMore.of_line {x : Drop} {l : Line} (h : x.line.NoMore l) : x.NoMore { x with line := l } :=
  ⟨rfl, h, id, fun _ => ⟨id, id, id⟩⟩

theorem Drop.Lawful.noMore {b : Bool} {x y : Drop} (h : x.Lawful b) (hxy : x.NoMore y) : y.Lawful b := by
  obtain ⟨hprofile, ⟨hstate, hholding, hshift, hslot, hqueue, htransmission⟩, htake, hstill⟩ := hxy
  refine ⟨?_, ?_, ?_, ?_, ?_, ?_⟩ <;> rw [hstate]
  · rw [hprofile]; exact h.disabledIff
  · exact fun hrolling => h.rolling (htake hrolling)
  · exact fun hin => h.stampIn (hin.imp hholding (Or.imp hshift id))
  · rw [hprofile]; exact fun hfull => h.slot (hslot hfull)
  · rw [hprofile]; exact fun hqueued => h.queue (hqueue hqueued)
  · intro hdisabled
    obtain ⟨hidle, hlow, hnone, hanchor⟩ := h.quiet hdisabled
    obtain ⟨hlow', hnone', hanchor'⟩ := hstill hdisabled
    exact ⟨htransmission hidle, hlow' hlow, hnone' hnone, hanchor' hanchor⟩

/-- The store gives copies only where the law lets a drop have them. -/
theorem Drop.Lawful.copiesChange {b : Bool} {x y : Drop} (h : x.Lawful b) (hxy : x.CopiesChange y) : y.Lawful b where
  disabledIff := by rw [hxy.state, hxy.profile]; exact h.disabledIff
  rolling := by rw [hxy.state, hxy.take]; exact h.rolling
  stampIn := by unfold Drop.StampIn; rw [hxy.state, hxy.holding, hxy.shift]; exact h.stampIn
  slot := by rw [hxy.state, hxy.slot, hxy.profile]; exact h.slot
  queue hqueued := by
    rw [hxy.state, hxy.profile]
    rcases hxy.begun hqueued with hbefore | ⟨-, -, hactive, hpacket⟩
    · exact h.queue hbefore
    · exact ⟨by rw [hactive]; decide, hpacket⟩
  quiet := by rw [hxy.state, hxy.transmission, hxy.df, hxy.cadence]; exact h.quiet

/-! ## The relation of states -/

/-- Every drop that keeps to its law before keeps to it after. -/
def State.DropsKeep (s t : State) : Prop := ∀ d, (s.drop d).Lawful (s.atIntake d) → (t.drop d).Lawful (t.atIntake d)

namespace State.DropsKeep

theorem refl (s : State) : s.DropsKeep s := fun _ => id

theorem trans {s t u : State} (h : s.DropsKeep t) (h' : t.DropsKeep u) : s.DropsKeep u := fun d hd => h' d (h d hd)

theorem orSame {c : Prop} [Decidable c] {s t : State} (h : s.DropsKeep t) : s.DropsKeep (if c then t else s) := by
  split
  · exact h
  · exact .refl s

theorem thenIf {c : Prop} [Decidable c] {s t u : State} (h : s.DropsKeep t) (h' : t.DropsKeep u) :
    s.DropsKeep (if c then u else t) := by
  split
  · exact h.trans h'
  · exact h

theorem foldl {α : Type} {f : State → α → State} (h : ∀ (s : State) x, s.DropsKeep (f s x)) (l : List α) (s : State) :
    s.DropsKeep (l.foldl f s) := by
  induction l generalizing s with
  | nil => exact .refl s
  | cons x l ih => exact (h s x).trans (ih _)

end State.DropsKeep

theorem State.atIntake_congr {s t : State} (h : t.intake = s.intake) (d : DropId) : t.atIntake d = s.atIntake d := by
  unfold State.atIntake
  rw [h]

theorem Touches.dropsKeep {bs : List Block} {s t : State} (h : Touches bs s t)
    (hdrops : bs.contains .drops = false := by rfl) (hintake : bs.contains .intake = false := by rfl) : s.DropsKeep t := by
  intro d hd
  rw [State.drop_eq_of_drops (h.drops hdrops) d, State.atIntake_congr (h.intake hintake) d]
  exact hd

/-- What the store reaches of the drops keeps to the law. -/
theorem State.CopiesChange.dropsKeep {s t : State} (h : s.CopiesChange t) (hintake : t.intake = s.intake) : s.DropsKeep t := by
  intro d hd
  rw [State.atIntake_congr hintake d]
  exact hd.copiesChange (h d)

theorem State.updDrop_dropsKeep {s : State} {d : DropId} {f : Drop → Drop}
    (h : ∀ b, (s.drop d).Lawful b → (f (s.drop d)).Lawful b) : s.DropsKeep (s.updDrop d f) := by
  intro e he
  rw [State.drop_updDrop]
  split
  next hed => subst hed; exact h _ he
  next => exact he

theorem State.updDrop_dropsKeep_of_noMore {s : State} {d : DropId} {f : Drop → Drop} (h : (s.drop d).NoMore (f (s.drop d))) :
    s.DropsKeep (s.updDrop d f) :=
  State.updDrop_dropsKeep fun _ hd => hd.noMore h

theorem State.updLine_dropsKeep {s : State} {d : DropId} {f : Line → Line}
    (h : (s.drop d).line.NoMore (f (s.drop d).line)) : s.DropsKeep (s.updLine d f) :=
  State.updDrop_dropsKeep_of_noMore (.of_line h)

theorem State.updCounters_dropsKeep (s : State) (d : DropId) (f : DropCounters → DropCounters) :
    s.DropsKeep (s.updCounters d f) :=
  State.updLine_dropsKeep ⟨rfl, id, id, id, id, id⟩

theorem State.latch_dropsKeep (s : State) (c : Cause) (d : Option DropId) : s.DropsKeep (s.latch c d) :=
  (s.latch_touches c d).dropsKeep

theorem State.fill_dropsKeep (s : State) (d : DropId) : s.DropsKeep (s.fill d) :=
  (s.fill_copiesChange d).dropsKeep ((s.fill_touches d).intake rfl)

theorem State.createItem_dropsKeep (s : State) (d : DropId) (item : ItemBody) : s.DropsKeep (s.createItem d item) :=
  (s.createItem_copiesChange d item).dropsKeep ((s.createItem_touches d item).intake rfl)

theorem State.strip_dropsKeep (s : State) (f : Held → Held) : s.DropsKeep (s.strip f) := (s.updAllRegions_touches _).dropsKeep

/-! ## The lines -/

theorem State.countMalformed_dropsKeep (s : State) (d : DropId) : s.DropsKeep (s.countMalformed d) :=
  (s.updCounters_dropsKeep d _).trans (State.latch_dropsKeep _ _ _)

theorem Line.clearShift_noMore (l : Line) : l.NoMore l.clearShift := ⟨rfl, id, nofun, id, id, id⟩

theorem Line.abort_noMore (counted : Bool) (l : Line) : l.NoMore (l.abort counted) := by
  unfold Line.abort
  split
  · exact ⟨rfl, id, id, id, id, fun _ => rfl⟩
  · exact .refl l

theorem Drop.onLine_iff (x : Drop) : x.onLine = true ↔ x.line.state ≠ .disabled ∧ x.profile.lineFunction = .packet := by
  rw [Drop.onLine, Bool.and_eq_true, Line.enabled_iff, beq_iff_eq]

/-- A packet enters the holding register only of a drop that had part of it in its shift register, so of an ACTIVE one. -/
theorem State.stampReceived_dropsKeep {s : State} {d : DropId} (hshift : (s.drop d).line.shift = .receiving)
    (words : List Word) :
    s.DropsKeep (s.stampReceived d words) := by
  have hclear : s.DropsKeep (s.updLine d Line.clearShift) := State.updLine_dropsKeep (Line.clearShift_noMore _)
  have hstored (clocking : Clocking) (r : Received) : s.DropsKeep ((s.updLine d Line.clearShift).updLine d
      (Line.store clocking r)) := by
    rw [State.updLine, State.updLine, State.updDrop_updDrop]
    refine State.updDrop_dropsKeep fun b hd => ?_
    have hactive : (s.drop d).line.state = .active := hd.stampIn (.inr (.inl hshift))
    unfold Line.store
    dsimp only
    split
    · exact ⟨hd.disabledIff, hd.rolling, fun _ => hactive, hd.slot, hd.queue, hd.quiet⟩
    · exact ⟨hd.disabledIff, hd.rolling, fun _ => hactive, hd.slot, hd.queue, hd.quiet⟩
  unfold State.stampReceived
  dsimp only
  split
  · exact hclear.trans ((State.updCounters_dropsKeep _ d _).trans (State.latch_dropsKeep _ _ _))
  split
  · exact hclear.trans ((State.updCounters_dropsKeep _ d _).trans (State.latch_dropsKeep _ _ _))
  · exact hstored _ _

theorem Drop.shiftingIn_shift {x : Drop} (h : x.shiftingIn = true) : x.line.shift = .receiving := by
  simp only [Drop.shiftingIn, Bool.and_eq_true, beq_iff_eq] at h
  obtain ⟨⟨-, hshift⟩, -⟩ := h
  exact hshift

theorem State.stampPacketComplete_dropsKeep (s : State) (d : DropId) (words : List Word) :
    s.DropsKeep (s.stampPacketComplete d words) := by
  unfold State.stampPacketComplete
  split
  next h =>
    rw [Bool.and_eq_true, Bool.and_eq_true] at h
    obtain ⟨⟨hshifting, -⟩, -⟩ := h
    exact State.stampReceived_dropsKeep (Drop.shiftingIn_shift hshifting) words
  next => exact .refl s

/-- A drop that lies off DISABLED may be ACTIVE whatever has come in. -/
theorem Drop.Lawful.activated {b b' : Bool} {x y : Drop} (h : x.Lawful b) (hon : x.line.state ≠ .disabled)
    (hstate : y.line.state = .active) (hprofile : y.profile = x.profile)
    (hslot : y.line.slot = x.line.slot) (hqueue : y.line.copyQueue = x.line.copyQueue) : y.Lawful b' where
  disabledIff := by
    rw [hstate, hprofile, h.enabled hon]
    decide
  rolling _ := hstate
  stampIn _ := hstate
  slot hfull := by
    rw [hslot] at hfull
    rw [hprofile]
    exact ⟨hstate, (h.slot hfull).2⟩
  queue hqueued := by
    rw [hqueue] at hqueued
    rw [hstate, hprofile]
    exact ⟨by decide, (h.queue hqueued).2⟩
  quiet hdisabled := absurd (hstate.symm.trans hdisabled) (by decide)

theorem Line.changed_kept (c : LineChange) (l : Line) :
    (l.changed c).state = l.state ∧ (l.changed c).slot = l.slot ∧ (l.changed c).copyQueue = l.copyQueue := by
  unfold Line.changed
  cases c with
  | drStartBit => dsimp only; split <;> exact ⟨rfl, rfl, rfl⟩
  | drLevel => exact ⟨rfl, rfl, rfl⟩
  | dkRise => exact ⟨rfl, rfl, rfl⟩
  | dkFall => exact ⟨rfl, rfl, rfl⟩

/-- A level change on the lines finds the drop ACTIVE, or wakes it (R95, R99). -/
theorem State.lineActivity_dropsKeep (s : State) (d : DropId) (c : LineChange) : s.DropsKeep (s.lineActivity d c) := by
  obtain ⟨hstate, hslot, hqueue⟩ := (s.drop d).line.changed_kept c
  unfold State.lineActivity
  split
  next honLine =>
    rw [Bool.and_eq_true, Drop.onLine_iff] at honLine
    obtain ⟨⟨hon, -⟩, -⟩ := honLine
    dsimp only
    split
    next =>
      refine State.DropsKeep.trans ?_ (State.fill_dropsKeep _ d)
      rw [State.updLine, State.updLine, State.updDrop_updDrop]
      exact State.updDrop_dropsKeep fun b hd => hd.activated hon rfl rfl hslot hqueue
    next hawake =>
      refine State.updDrop_dropsKeep fun b hd => hd.activated hon (hstate.trans ?_) rfl hslot hqueue
      cases hs : (s.drop d).line.state with
      | active => rfl
      | dormant => exact absurd (beq_iff_eq.mpr hs) hawake
      | disabled => exact absurd hs hon
  next => exact .refl s

/-- A transmission starts only off DISABLED. -/
theorem Drop.Lawful.starts {b : Bool} {x : Drop} {l : Line} (h : x.Lawful b) (hon : x.line.state ≠ .disabled)
    (hl : Line.NoMore x.line { l with transmission := x.line.transmission }) : ({ x with line := l } : Drop).Lawful b := by
  have hkept := h.noMore (.of_line hl)
  exact ⟨hkept.disabledIff, hkept.rolling, hkept.stampIn, hkept.slot, hkept.queue,
    fun hdisabled => absurd (hl.state.symm.trans hdisabled) hon⟩

theorem State.lineStart_dropsKeep (s : State) (d : DropId) : s.DropsKeep (s.lineStart d) := by
  unfold State.lineStart
  split
  next hstart =>
    have hon : (s.drop d).line.state ≠ .disabled := by
      rw [Drop.mayStart, Bool.and_eq_true, Bool.and_eq_true, Drop.onLine_iff] at hstart
      obtain ⟨⟨⟨hon, -⟩, -⟩, -⟩ := hstart
      exact hon
    split
    next => exact State.updDrop_dropsKeep fun b hd => hd.starts hon ⟨rfl, id, id, fun h => absurd rfl h, id, id⟩
    next =>
      split
      · exact State.updDrop_dropsKeep fun b hd => hd.starts hon ⟨rfl, id, id, id, id, id⟩
      · exact .refl s
    next => exact .refl s
  next => exact .refl s

theorem State.dropTransmitted_dropsKeep (s : State) (d : DropId) : s.DropsKeep (s.dropTransmitted d) := by
  unfold State.dropTransmitted
  split
  next => exact State.updLine_dropsKeep ⟨rfl, id, id, id, id, fun _ => rfl⟩
  next n _ _ =>
    refine State.DropsKeep.trans ((State.updLine_dropsKeep ⟨rfl, id, id, id, ?_, fun _ => rfl⟩).trans
      (State.strip_dropsKeep _ _)) (State.fill_dropsKeep _ d)
    exact fun hleft hempty => hleft (by dsimp only; rw [hempty]; rfl)
  next => exact .refl s

end Sys2Proof.Machine
end

section
/-! SUPPORT. What the state of a drop allows, kept where a take, a profile or a drop state changes: takes that close and open,
applies of profiles, boundary events, the intake, jams and resets. -/

namespace Sys2Proof.Machine

/- One proof after another: a thread for each would take more memory than a check has. -/
set_option Elab.async false

/-! ## Changes of a drop that runs, or of its take -/

/-- The cadence unit and the DF line of a drop that is not DISABLED are free. -/
theorem Drop.Lawful.ofRunning {b : Bool} {x y : Drop} (h : x.Lawful b) (hon : x.line.state ≠ .disabled)
    (hprofile : y.profile = x.profile := by rfl) (hline : y.line = x.line := by rfl) (htake : y.take = x.take := by rfl) :
    y.Lawful b :=
  ⟨by rw [hline, hprofile]; exact h.disabledIff, by rw [hline, htake]; exact h.rolling,
    by unfold Drop.StampIn; rw [hline]; exact h.stampIn, by rw [hline, hprofile]; exact h.slot,
    by rw [hline, hprofile]; exact h.queue, fun hdisabled => absurd (hline ▸ hdisabled) hon⟩

theorem Drop.Lawful.withTake {b : Bool} {x : Drop} {t : Take} (h : x.Lawful b)
    (ht : t.state = .rolling → x.line.state = .active) : ({ x with take := t } : Drop).Lawful b :=
  ⟨h.disabledIff, ht, h.stampIn, h.slot, h.queue, h.quiet⟩

theorem State.updTake_dropsKeep {s : State} {d : DropId} {f : Take → Take}
    (h : (f (s.drop d).take).state = .rolling → (s.drop d).take.state = .rolling ∨ (s.drop d).line.state = .active) :
    s.DropsKeep (s.updTake d f) :=
  State.updDrop_dropsKeep fun _ hd => hd.withTake fun hrolling => (h hrolling).elim hd.rolling id

theorem State.announceGuard_dropsKeep (s : State) : s.DropsKeep s.announceGuard := s.announceGuard_touches.dropsKeep

theorem State.closeTake_dropsKeep (s : State) (d : DropId) (reason : CloseReason) : s.DropsKeep (s.closeTake d reason) := by
  have hclosed : s.DropsKeep (s.updTake d (fun t => { t with state := .idle, lastClose := reason })) :=
    State.updTake_dropsKeep nofun
  exact hclosed.trans (State.announceGuard_dropsKeep _)

theorem State.closeWithCut_dropsKeep (s : State) (d : DropId) (reason : CloseReason) (p : Profile) (anchor : Int) :
    s.DropsKeep (s.closeWithCut d reason p anchor) :=
  (s.closeTake_dropsKeep d reason).trans (State.createItem_dropsKeep _ d _)

/-! ## Boundary events -/

/-- A line at which a FRAME comes to wait, where the drop takes FRAMEs, and whose quiet timer moves. -/
theorem Drop.Lawful.frameBegun {b : Bool} {x : Drop} (h : x.Lawful b) (hon : x.line.state ≠ .disabled) (f : Frame)
    (n boundary : Nat) (waited underWay : Bool) : (x.frameBegun f n boundary waited underWay).Lawful b where
  disabledIff := h.disabledIff
  rolling := h.rolling
  stampIn := h.stampIn
  slot hfull := by
    by_cases htakes : x.takesFrames = true
    · obtain ⟨-, hlistens⟩ := x.takesFrames_iff.mp htakes
      exact hlistens
    · refine h.slot ?_
      have hslot : (x.frameBegun f n boundary waited underWay).line.slot = x.line.slot := if_neg htakes
      rwa [hslot] at hfull
  queue := h.queue
  quiet hdisabled := absurd hdisabled hon

theorem Drop.Lawful.dormant {b : Bool} {x : Drop} {t : Take} (h : x.Lawful b) (hactive : x.line.state = .active)
    (hout : ¬ x.StampIn b) (ht : t.state ≠ .rolling) : ({ x with line := x.line.dormant, take := t } : Drop).Lawful b where
  disabledIff := iff_of_false nofun (by rw [h.enabled (by rw [hactive]; decide)]; decide)
  rolling hrolling := absurd hrolling ht
  stampIn hin := absurd hin hout
  slot hfull := absurd rfl hfull
  queue hqueued := ⟨nofun, (h.queue hqueued).2⟩
  quiet := nofun

/-- A drop goes DORMANT with no stamp under way, and its take closes. -/
theorem State.goDormant_dropsKeep {s : State} {d : DropId} (hactive : (s.drop d).line.state = .active)
    (hout : ¬ (s.drop d).StampIn (s.atIntake d)) (p : Profile) (anchor : Int) : s.DropsKeep (s.goDormant d p anchor) := by
  rw [State.goDormant_eq]
  split
  next =>
    have hclosed : s.DropsKeep ((s.updLine d Line.dormant).closeTake d .lost) := by
      have hintake : ((s.updLine d Line.dormant).closeTake d .lost).intake = s.intake := rfl
      intro e he
      rw [State.atIntake_congr hintake]
      by_cases hed : e = d
      · subst hed
        rw [State.drop_closeTake_self, State.drop_updLine, if_pos rfl]
        exact he.dormant hactive hout nofun
      · rw [State.drop_closeTake_ne _ _ hed, State.drop_updLine, if_neg hed]
        exact he
    exact (hclosed.trans (State.createItem_dropsKeep _ d _)).trans (State.latch_dropsKeep _ _ _)
  next hrolling =>
    intro e he
    rw [State.drop_updLine]
    split
    next hed =>
      subst hed
      exact he.dormant hactive hout (mt (s.rolling_eq_true_iff e).mpr hrolling)
    next => exact he

theorem State.finishBoundary_dropsKeep {s : State} {d : DropId} (hon : (s.drop d).line.state ≠ .disabled)
    (n time boundary : Nat) (waited : Bool) (p : Profile) (anchor : Int) : s.DropsKeep (s.finishBoundary d n time boundary waited p anchor) := by
  obtain ⟨hdue, hnot⟩ := s.finishBoundary_eq d n time boundary waited p anchor
  have hbegun : s.DropsKeep (s.frameBegun d n time boundary waited) :=
    State.updDrop_dropsKeep fun _ hd => hd.frameBegun hon _ _ _ _ _
  by_cases h : s.DormancyDue d
  · rw [hdue h]
    obtain ⟨⟨hactive, -, -, hthrough⟩, -, -⟩ := h
    have hdrop : (s.frameBegun d n time boundary waited).drop d
        = (s.drop d).frameBegun (s.composeFrame d n time) n boundary waited (s.stampUnderWay d) :=
      State.drop_updDrop_self s d _
    refine hbegun.trans (State.goDormant_dropsKeep ?_ ?_ p anchor)
    · rw [hdrop]
      exact hactive
    · rw [hdrop]
      intro hin
      exact Bool.false_ne_true (hthrough.symm.trans ((s.stampUnderWay_iff d).mpr hin))
  · rw [hnot h]
    exact hbegun

/-! ## Applies -/

/-- A drop that is not DISABLED, whatever its profile: what of the law an adopted profile cannot break. -/
structure Drop.Runs (atIntake : Bool) (x : Drop) : Prop where
  on : x.line.state ≠ .disabled
  rolling : x.take.state = .rolling → x.line.state = .active
  stampIn : x.StampIn atIntake → x.line.state = .active
  slot : x.line.slot ≠ none → x.line.state = .active

theorem Drop.Runs.copiesChange {b : Bool} {x y : Drop} (h : x.Runs b) (hxy : x.CopiesChange y) : y.Runs b :=
  ⟨by rw [hxy.state]; exact h.on, by rw [hxy.state, hxy.take]; exact h.rolling,
    by unfold Drop.StampIn; rw [hxy.state, hxy.holding, hxy.shift]; exact h.stampIn,
    by rw [hxy.state, hxy.slot]; exact h.slot⟩

/-- A pending profile comes into force: of the drop the copies change, and its take closes where a guarded field changes. -/
theorem State.adoptProfile_drop (s : State) (d : DropId) (p : Profile) :
    ∃ t : Take, ({ (s.withProfile d p).drop d with take := t } : Drop).CopiesChange ((s.adoptProfile d p).drop d)
      ∧ (t.state = .rolling → (s.drop d).take.state = .rolling ∧ ¬ GuardedChange (s.drop d).profile p) := by
  rw [State.adoptProfile_eq]
  split
  next =>
    have hcopies := (s.withProfile d p).closeWithCut_copiesChange d .reprofile (s.drop d).profile (s.drop d).cadence.anchor d
    rw [State.drop_closeTake_self] at hcopies
    exact ⟨_, hcopies, nofun⟩
  next hnot =>
    rw [State.changesGuarded_iff] at hnot
    refine ⟨(s.drop d).take, ?_, fun hrolling => ⟨hrolling, fun hchange => hnot ⟨hrolling, hchange⟩⟩⟩
    rw [State.drop_withProfile]
    exact .refl _

theorem State.adoptProfile_runs {s : State} {d : DropId} {b : Bool} (h : (s.drop d).Lawful b)
    (hon : (s.drop d).line.state ≠ .disabled) (p : Profile) : ((s.adoptProfile d p).drop d).Runs b := by
  obtain ⟨t, hcopies, htake⟩ := s.adoptProfile_drop d p
  rw [State.drop_withProfile] at hcopies
  refine Drop.Runs.copiesChange ?_ hcopies
  exact ⟨hon, fun hrolling => h.rolling (htake hrolling).1, h.stampIn, fun hfull => (h.slot hfull).1⟩

theorem State.intake_adoptProfile (s : State) (d : DropId) (p : Profile) : (s.adoptProfile d p).intake = s.intake :=
  (s.adoptProfile_touches d p).intake rfl

/-- The other drops keep to the law as a profile of drop `d` comes into force. -/
theorem State.adoptProfile_others {s : State} {d e : DropId} (hed : e ≠ d) (p : Profile)
    (he : (s.drop e).Lawful (s.atIntake e)) : ((s.adoptProfile d p).drop e).Lawful (s.atIntake e) := by
  have hsame : (s.withProfile d p).drop e = s.drop e := State.drop_updDrop_ne s _ hed
  rw [State.adoptProfile_eq]
  split
  · refine Drop.Lawful.copiesChange ?_ ((s.withProfile d p).closeWithCut_copiesChange d _ _ _ e)
    rw [State.drop_closeTake_ne _ _ hed, hsame]
    exact he
  · rw [hsame]
    exact he

/-- A drop that goes on under an enabled profile keeps to the law. -/
theorem GoesOnUnder.lawful {d : DropId} {old p : Profile} {s t : State} {b : Bool} (h : GoesOnUnder d old p s t)
    (hp : p.enabled = true) (hruns : (s.drop d).Runs b) : (t.drop d).Lawful b := by
  obtain ⟨x, u, hprofile, htake, -, ⟨changed, -, hline⟩, -, -, -, q, hdrop, more, hq, hgiven, -⟩ := h
  have hstate : x.line.state = (s.drop d).line.state := by rw [hline]
  have htstate : (t.drop d).line.state = x.line.state := by rw [hdrop]
  have htprofile : (t.drop d).profile = p := by rw [hdrop]; exact hprofile
  have hon : (t.drop d).line.state ≠ .disabled := by rw [htstate, hstate]; exact hruns.on
  refine ⟨iff_of_false hon (by rw [htprofile, hp]; decide), ?rolling, ?stampIn, ?slot, ?queue, fun hoff => absurd hoff hon⟩
  case rolling =>
    have htaket : (t.drop d).take = (s.drop d).take := by rw [hdrop]; exact htake
    rw [htstate, hstate, htaket]
    exact hruns.rolling
  case stampIn =>
    intro hin
    rw [htstate, hstate]
    refine hruns.stampIn (hin.imp (fun hheld => ?_) (Or.imp (fun hshift => ?_) id))
    · rw [hdrop, hline] at hheld
      exact hheld
    · rw [hdrop, hline] at hshift
      cases changed with
      | false => exact hshift
      | true => exact absurd hshift nofun
  case slot =>
    intro hfull
    rw [htstate, hstate, htprofile]
    rw [hdrop, hline] at hfull
    dsimp only at hfull
    split at hfull
    next hfeeds => exact ⟨hruns.slot hfull, hfeeds.1⟩
    next => exact absurd rfl hfull
  case queue =>
    intro hqueued
    refine ⟨hon, ?_⟩
    rw [htprofile]
    by_cases hmore : more = []
    · rw [hdrop] at hqueued
      dsimp only at hqueued
      rw [hq, hmore, List.append_nil, hline] at hqueued
      dsimp only at hqueued
      split at hqueued
      next hpacket => exact hpacket
      next => exact absurd rfl hqueued
    · obtain ⟨⟨-, -, -, hpacket⟩, -⟩ := hgiven hmore
      rwa [htprofile] at hpacket

theorem GoesOnUnder.others {d e : DropId} {old p : Profile} {s t : State} (h : GoesOnUnder d old p s t) (hed : e ≠ d) :
    t.drop e = s.drop e := by
  obtain ⟨x, u, -, -, -, -, -, hsets, ⟨-, honly⟩, -⟩ := h
  have hu : u.drops = (s.updDrop d (fun _ => x)).drops := by
    split at hsets
    · exact hsets.drops
    · rw [hsets]
  rw [honly e hed, State.drop_eq_of_drops hu, State.drop_updDrop_ne s _ hed]

theorem BecomesDisabled.lawful {d : DropId} {s t : State} (h : BecomesDisabled d s t)
    (hp : (s.drop d).profile.enabled = false) (hidle : (s.drop d).take.state ≠ .rolling)
    (hnone : (s.drop d).cadence.pendingProfile = none) : (t.drop d).Lawful (t.atIntake d) := by
  obtain ⟨l, c, atIntake, -, -, hin, hsets⟩ := h
  have hfree : t.atIntake d = false := by
    obtain ⟨hframe, -⟩ := hsets
    have hintake : t.intake.inProcess = if atIntake then none else s.intake.inProcess := by rw [hframe]; rfl
    have hmem : t.atIntake d = (t.intake.inProcess.map InProcess.source == some d) := rfl
    rw [hmem, hintake]
    cases atIntake with
    | true => rfl
    | false => exact beq_eq_false_iff_ne.mpr fun hsource => Bool.false_ne_true (hin.mpr hsource)
  rw [hfree, State.drop_eq_of_drops hsets.drops, State.drop_updDrop_self]
  exact ⟨iff_of_true rfl hp, fun hrolling => absurd hrolling hidle,
    fun hstamp => by rcases hstamp with hheld | hshift | hfalse <;> contradiction, fun hfull => absurd rfl hfull,
    fun hqueued => absurd rfl hqueued, fun _ => ⟨rfl, rfl, hnone, rfl⟩⟩

theorem BecomesDisabled.others {d e : DropId} {s t : State} (h : BecomesDisabled d s t) (hed : e ≠ d)
    (he : (s.drop e).Lawful (s.atIntake e)) : (t.drop e).Lawful (t.atIntake e) := by
  obtain ⟨l, c, atIntake, -, -, -, hsets⟩ := h
  have hdrop : t.drop e = s.drop e := (State.drop_eq_of_drops hsets.drops e).trans (State.drop_updDrop_ne _ _ hed)
  have hintake : t.intake.inProcess = if atIntake then none else s.intake.inProcess := by
    obtain ⟨hframe, -⟩ := hsets
    rw [hframe]
    rfl
  have hmem (u : State) : u.atIntake e = (u.intake.inProcess.map InProcess.source == some e) := rfl
  rw [hdrop]
  rw [hmem] at he ⊢
  rw [hintake]
  cases atIntake with
  | true => exact he.freed
  | false => exact he

/-- An apply of a profile to a drop that is not DISABLED. -/
theorem State.applyProfile_dropsKeep {s : State} {d : DropId} (hon : (s.drop d).line.state ≠ .disabled) (p : Profile) :
    s.DropsKeep (s.applyProfile d p) := by
  intro e he
  have hintake := State.atIntake_congr (s.intake_adoptProfile d p) e
  unfold State.applyProfile
  dsimp only
  split
  next hp =>
    have hgoes := State.settleEnabled_goesOn _ d (s.drop d).profile p (s.profile_adoptProfile d p)
    have hsame : ((s.adoptProfile d p).settleEnabled d (s.drop d).profile p).atIntake e = s.atIntake e :=
      (State.atIntake_congr ((State.settleEnabled_touches _ d _ p).intake rfl) e).trans hintake
    rw [hsame]
    by_cases hed : e = d
    · subst hed
      exact hgoes.lawful hp (State.adoptProfile_runs he hon p)
    · rw [hgoes.others hed]
      exact State.adoptProfile_others hed p he
  next hp =>
    have hoff : p.enabled = false := Bool.eq_false_of_not_eq_true hp
    have hbecomes := State.settleDisabled_becomes (s.adoptProfile d p) d
    by_cases hed : e = d
    · subst hed
      obtain ⟨t, hcopies, htake⟩ := s.adoptProfile_drop e p
      rw [State.drop_withProfile] at hcopies
      have hchange : GuardedChange (s.drop e).profile p :=
        .inr (.inr (.inr (.inr (by rw [he.enabled hon, hoff]; decide))))
      refine hbecomes.lawful ?_ ?_ ?_
      · rw [hcopies.profile]
        exact hoff
      · rw [hcopies.take]
        exact fun hrolling => (htake hrolling).2 hchange
      · rw [hcopies.cadence]
    · refine hbecomes.others hed ?_
      rw [hintake]
      exact State.adoptProfile_others hed p he

end Sys2Proof.Machine
end

section
/-! SUPPORT. What the state of a drop allows, through every command: the boundary event, the intake, arrivals of TIME, loads
of a profile and the two resets. -/

namespace Sys2Proof.Machine

/- One proof after another: a thread for each would take more memory than a check has. -/
set_option Elab.async false

theorem State.DropsKeep.dropLaw {s t : State} (h : s.DropsKeep t) (hs : s.DropLaw) : t.DropLaw :=
  fun d => (t.dropLawAt_iff d).mpr (h d ((s.dropLawAt_iff d).mp (hs d)))

theorem State.DropLaw.lawful {s : State} (h : s.DropLaw) (d : DropId) : (s.drop d).Lawful (s.atIntake d) :=
  (s.dropLawAt_iff d).mp (h d)

/-- A drop with something pending is not DISABLED. -/
theorem State.DropLaw.on_of_pending {s : State} (h : s.DropLaw) {d : DropId}
    (hpending : (s.drop d).cadence.pendingProfile ≠ none ∨ (s.drop d).cadence.pendingAnchor = true) :
    (s.drop d).line.state ≠ .disabled := by
  intro hoff
  obtain ⟨-, -, hnone, hanchor⟩ := (h.lawful d).quiet hoff
  exact hpending.elim (fun hsome => hsome hnone) (fun htrue => Bool.false_ne_true (hanchor.symm.trans htrue))

/-! ## The DF line -/

/-- Driving a line at its level leaves it low at a DISABLED drop, which follows no word clock. -/
theorem State.driveDf_dropsKeep (s : State) (d : DropId) (k : DividerCount) : s.DropsKeep (s.driveDf d k) := by
  refine State.updDrop_dropsKeep_of_noMore ⟨rfl, .refl _, id, fun hoff => ⟨fun hlow => ?_, id, id⟩⟩
  have hnot : (s.drop d).followsWord = false :=
    Bool.eq_false_of_not_eq_true fun hfollows => ((s.drop d).followsWord_iff.mp hfollows).1 hoff
  exact (s.dfLevel_of_not_followsWord d k hnot).trans hlow

theorem State.followAgain_dropsKeep (s : State) (d : DropId) : s.DropsKeep (s.followAgain d) :=
  State.updDrop_dropsKeep_of_noMore ⟨rfl, .refl _, id, fun _ => ⟨id, id, id⟩⟩

theorem State.endPulse_dropsKeep (s : State) (d : DropId) : s.DropsKeep (s.endPulse d) := by
  have hlowered : s.DropsKeep (s.updDf d DfLine.lowered) :=
    State.updDrop_dropsKeep_of_noMore ⟨rfl, .refl _, id, fun _ => ⟨fun _ => rfl, id, id⟩⟩
  unfold State.endPulse
  split
  · exact hlowered.orSame
  · exact .refl s

/-! ## The boundary event (R54) -/

theorem State.line_driveDf (s : State) (d : DropId) (k : DividerCount) :
    ((s.driveDf d k).drop d).line = (s.drop d).line := by
  rw [State.drop_driveDf, if_pos rfl]

theorem State.line_followAgain (s : State) (d : DropId) : ((s.followAgain d).drop d).line = (s.drop d).line := by
  rw [State.followAgain, State.drop_updDf, if_pos rfl]

theorem State.updCadence_dropsKeep {s : State} {d : DropId} (hon : (s.drop d).line.state ≠ .disabled) (f : Cadence → Cadence) :
    s.DropsKeep (s.updCadence d f) :=
  State.updDrop_dropsKeep fun _ hd => hd.ofRunning hon

/-- An enabled profile leaves the drop as ACTIVE or DORMANT as it was. -/
theorem State.applyProfile_on {s : State} {d : DropId} (hd : (s.drop d).Lawful (s.atIntake d))
    (hon : (s.drop d).line.state ≠ .disabled) {p : Profile} (hp : p.enabled = true) :
    ((s.applyProfile d p).drop d).line.state ≠ .disabled := by
  obtain ⟨hprofile, -⟩ := s.drop_applyProfile_of_enabled d hp
  have hlawful := State.applyProfile_dropsKeep hon p d hd
  rw [Ne, hlawful.disabledIff, hprofile, hp]
  decide

theorem State.boundaryEvent_dropLaw {s : State} (h : s.DropLaw) {d : DropId} (hon : (s.drop d).line.state ≠ .disabled) :
    (s.boundaryEvent d).DropLaw := by
  have hfollow : (s.followAgain d).DropLaw := (s.followAgain_dropsKeep d).dropLaw h
  have hfollowOn : ((s.followAgain d).drop d).line.state ≠ .disabled := by rwa [State.line_followAgain]
  unfold State.boundaryEvent
  dsimp only
  split
  next p _ =>
    have hdriven : ((s.driveDf d 0).followAgain d).DropLaw :=
      ((s.driveDf_dropsKeep d 0).trans (State.followAgain_dropsKeep _ d)).dropLaw h
    have hdrivenOn : (((s.driveDf d 0).followAgain d).drop d).line.state ≠ .disabled := by
      rwa [State.line_followAgain, State.line_driveDf]
    have happlied := (State.applyProfile_dropsKeep hdrivenOn p).dropLaw hdriven
    split
    next hp =>
      have hon' := State.applyProfile_on (hdriven.lawful d) hdrivenOn hp
      exact (State.finishBoundary_dropsKeep hon' _ _ _ _ _ _).dropLaw happlied
    next => exact happlied
  next =>
    have hline (f : Cadence → Cadence) : (((s.followAgain d).updCadence d f).drop d).line.state ≠ .disabled := by
      rw [State.drop_updCadence, if_pos rfl]
      exact hfollowOn
    have hcadence (f : Cadence → Cadence) : ((s.followAgain d).updCadence d f).DropLaw :=
      (State.updCadence_dropsKeep hfollowOn f).dropLaw hfollow
    split
    · exact (State.finishBoundary_dropsKeep (hline _) _ _ _ _ _ _).dropLaw (hcadence _)
    · exact (State.finishBoundary_dropsKeep (hline _) _ _ _ _ _ _).dropLaw (hcadence _)

/-! ## The intake (R107, R109) -/

theorem State.atIntake_of_free {s : State} (h : s.intake.inProcess = none) (d : DropId) : s.atIntake d = false := by
  unfold State.atIntake
  rw [h]
  rfl

/-- A packet goes from the holding register to the intake, so that it stays on its way. -/
theorem State.intakeTake_dropsKeep (s : State) : s.DropsKeep s.intakeTake := by
  unfold State.intakeTake
  split
  next d hfree _ =>
    split
    next r hheld =>
      intro e he
      rw [State.drop_updLine]
      split
      next hed =>
        subst hed
        have hactive : (s.drop e).line.state = .active :=
          he.stampIn (.inl fun hempty => nomatch hheld.symm.trans hempty)
        exact ⟨he.disabledIff, he.rolling, fun _ => hactive, he.slot, he.queue, he.quiet⟩
      next hed =>
        have hnot (t : State) (ht : t.intake.inProcess = some { source := d, packet := r }) : t.atIntake e = false := by
          unfold State.atIntake
          rw [ht]
          exact beq_eq_false_iff_ne.mpr fun hsource => hed (Option.some.inj hsource).symm
        rw [hnot _ rfl]
        exact he.freed
    next => exact .refl s
  next => exact .refl s

theorem State.buildSync_dropsKeep (s : State) (d : DropId) (j : Judged) (ds : List DropId) :
    s.DropsKeep (s.buildSync d j ds) := by
  have hcount (u : State) (x : DropId) :
      u.DropsKeep (u.updTake x (fun t => { t with clapCount := satInc 65535 t.clapCount })) :=
    State.updTake_dropsKeep .inl
  have hnumber (n : Nat) : s.DropsKeep (s.setStore { s.store with syncNumber := n }) := (s.setStore_touches _).dropsKeep
  unfold State.buildSync
  split
  · exact s.latch_dropsKeep _ _
  · exact ((hnumber _).trans (.foldl hcount ds _)).trans (State.createItem_dropsKeep _ d _)

/-- A take opens only at an ACTIVE drop. -/
theorem State.completeRoll_dropsKeep {s : State} {d : DropId} (hactive : (s.drop d).line.state = .active) (c : Converted) :
    s.DropsKeep (s.completeRoll d c) := by
  have hopen (u : State) (hu : (u.drop d).line.state = .active) (n r : Nat) : u.DropsKeep
      (((u.updTake d (fun t => t.opened c.stamp.takeNumber r t.rollSerial)).announceGuard.createItem d
        (c.item d c.flags (some n))).updTake d (fun t => { t with rollSerial :=
          ((u.updTake d (fun t => t.opened c.stamp.takeNumber r t.rollSerial)).announceGuard.createItem d
            (c.item d c.flags (some n))).store.serial })) :=
    (((State.updTake_dropsKeep fun _ => .inr hu).trans (State.announceGuard_dropsKeep _)).trans
      (State.createItem_dropsKeep _ d _)).trans (State.updTake_dropsKeep .inl)
  unfold State.completeRoll
  dsimp only
  split
  next =>
    have hsuperseded : s.DropsKeep (s.updTake d (fun t => { t with lastClose := .superseded })) := State.updTake_dropsKeep .inl
    refine (hsuperseded.trans (State.createItem_dropsKeep _ d _)).trans (hopen _ ?_ _ _)
    rw [(State.createItem_copiesChange _ d _ d).state, State.drop_updTake, if_pos rfl]
    exact hactive
  next => exact hopen s hactive _ _

theorem State.completeKind_dropsKeep {s : State} {d : DropId} (hactive : (s.drop d).line.state = .active) (c : Converted) :
    s.DropsKeep (s.completeKind d c) := by
  unfold State.completeKind
  split
  · exact State.completeRoll_dropsKeep hactive c
  · unfold State.completeCut
    dsimp only
    split
    · exact (s.closeTake_dropsKeep d .cut).trans (State.createItem_dropsKeep _ d _)
    · exact s.createItem_dropsKeep d _
  · exact (s.createItem_dropsKeep d _).trans (State.buildSync_dropsKeep _ d _ _)
  · exact s.createItem_dropsKeep d _
  · exact (s.setLabels_touches _).dropsKeep.trans (State.createItem_dropsKeep _ d _)

theorem State.intakeComplete_dropLaw {s : State} (h : s.DropLaw) : s.intakeComplete.DropLaw := by
  unfold State.intakeComplete
  split
  next ip hin =>
    have hfreed : s.DropsKeep (s.setIntake { s.intake with inProcess := none }) := fun d hd => by
      rw [State.atIntake_of_free (s := s.setIntake { s.intake with inProcess := none }) rfl]
      exact hd.freed
    have hactive : (s.drop ip.source).line.state = .active := by
      refine (h.lawful ip.source).stampIn (.inr (.inr ?_))
      unfold State.atIntake
      rw [hin]
      exact beq_self_eq_true _
    refine State.DropsKeep.dropLaw (hfreed.trans ?_) h
    generalize hs : s.setIntake { s.intake with inProcess := none } = u
    have hu : (u.drop ip.source).line.state = .active := by rw [← hs]; exact hactive
    unfold State.completeStamp
    split
    · exact u.countMalformed_dropsKeep _
    split
    · exact State.completeKind_dropsKeep hu _
    · exact u.updCounters_dropsKeep _ _
  next => exact h

/-! ## Arrivals of TIME (R17, R34, R35) -/

theorem Drop.reached_noMore (old new : Nat) (x : Drop) : x.NoMore (x.reached old new) where
  profile := by
    unfold Drop.reached Drop.jammed
    split <;> rfl
  line := by
    have hline : (x.reached old new).line = x.line := Drop.jammed_line old new _ x
    rw [hline]
    exact .refl _
  take hrolling := (Take.rebase_state _ _).symm.trans hrolling
  still hoff := by
    have hjammed : x.jammed old new ((new : Int) - old) = x := if_neg fun hon => x.line.enabled_iff.mp hon hoff
    unfold Drop.reached
    rw [hjammed]
    exact ⟨id, id, id⟩

theorem State.jam_dropsKeep (s : State) (e : Int) : s.DropsKeep (s.jam e) := by
  have hjam : s.DropsKeep (s.jamUnlatched e) := fun d hd => by
    rw [State.jamUnlatched_drop]
    exact hd.noMore (Drop.reached_noMore _ _ _)
  rw [State.jam_eq]
  exact (hjam.trans (State.latch_dropsKeep _ _ _)).trans (State.latchLockLost_touches _ _).dropsKeep

theorem State.stepDecision_dropsKeep (s : State) (e : Int) : s.DropsKeep (s.stepDecision e) := by
  unfold State.stepDecision
  split
  · exact s.jam_dropsKeep e
  · exact (((s.enterState_touches _).dropsKeep.trans (State.slewBy_touches _ e).dropsKeep).trans
      (State.latch_dropsKeep _ _ _)).trans (State.latchLockLost_touches _ _).dropsKeep

theorem State.setTracker_dropsKeep (s : State) (x : Tracker) : s.DropsKeep (s.setTracker x) :=
  (s.setTracker_touches x).dropsKeep

theorem State.arriveTrack_dropsKeep (s : State) (e : Int) : s.DropsKeep (s.arriveTrack e) := by
  unfold State.arriveTrack
  dsimp only
  split
  · exact ((s.loopUpdate_touches e).dropsKeep.trans (State.setTracker_dropsKeep _ _)).thenIf
      ((State.setTracker_dropsKeep _ _).trans (State.latch_dropsKeep _ _ _))
  split
  · exact (s.loopToTrack_touches e).dropsKeep
  · exact (State.setTracker_dropsKeep _ _).thenIf (State.stepDecision_dropsKeep _ e)

theorem State.arriveLocked_dropsKeep (s : State) (e : Int) : s.DropsKeep (s.arriveLocked e) := by
  unfold State.arriveLocked
  dsimp only
  split
  · exact (s.loopUpdate_touches e).dropsKeep.trans (State.setTracker_dropsKeep _ _)
  split
  · exact (s.loopToTrack_touches e).dropsKeep
  · exact (State.setTracker_dropsKeep _ _).thenIf (State.stepDecision_dropsKeep _ e)

theorem State.jamFrom_dropsKeep (s : State) (e : Int) : s.DropsKeep (s.jamFrom e) := by
  unfold State.jamFrom
  split
  · exact (s.setCorrection_touches _).dropsKeep.trans (State.jam_dropsKeep _ e)
  · exact s.jam_dropsKeep e

theorem State.arriveSlew_dropsKeep (s : State) (e : Int) : s.DropsKeep (s.arriveSlew e) := by
  have hslew : s.DropsKeep (s.slewBy e) := (s.slewBy_touches e).dropsKeep
  unfold State.arriveSlew
  split
  · exact (s.loopToTrack_touches e).dropsKeep
  split
  · exact hslew
  split
  · exact hslew
  · exact s.jamFrom_dropsKeep e

theorem State.arriveByState_dropsKeep (s : State) (e : Int) : s.DropsKeep (s.arriveByState e) := by
  unfold State.arriveByState
  split
  · exact s.jamFrom_dropsKeep e
  split
  · exact s.jam_dropsKeep e
  · exact s.arriveTrack_dropsKeep e
  · exact s.arriveLocked_dropsKeep e
  · exact s.arriveSlew_dropsKeep e
  · unfold State.arriveFreewheel
    split
    · exact (s.loopToTrack_touches e).dropsKeep
    · exact s.stepDecision_dropsKeep e

theorem State.timeArrival_dropsKeep (s : State) (words : List Word) (captured : Nat) :
    s.DropsKeep (s.timeArrival words captured) := by
  have hdiscipline (u : State) (e : Int) : u.DropsKeep (u.discipline e) :=
    ((State.setTracker_dropsKeep _ _).trans (State.arriveByState_dropsKeep _ e)).trans (State.setTracker_dropsKeep _ _)
  unfold State.timeArrival
  dsimp only
  split
  · exact (s.handOverTime_touches words).dropsKeep
  · exact (s.missingTimeExpiry_touches.dropsKeep.trans (State.handOverTime_touches _ words).dropsKeep).trans (hdiscipline _ _)

theorem State.classify_dropsKeep (s : State) (side : Side) (words : List Word) (captured : Nat) :
    s.DropsKeep (s.classify side words captured) := by
  have hforeign (k : RouteKind) (item : Option ItemBody) : s.DropsKeep (s.foreignArrival words k item) :=
    (s.foreignArrival_copiesChange words k item).dropsKeep ((s.foreignArrival_touches words k item).intake rfl)
  unfold State.classify
  split
  next =>
    unfold State.timePacketOnA
    split
    · exact (s.updSideCounters_touches _ _).dropsKeep
    · exact s.timeArrival_dropsKeep words captured
  next => exact (s.mgmtArrival_touches .a words).dropsKeep
  next => exact (s.enterDown_touches words).dropsKeep
  next => exact (s.misdirected_touches .a).dropsKeep
  next => exact hforeign _ _
  next => exact hforeign _ _
  next => exact (s.enterUp_touches words).dropsKeep
  next => exact (s.enterUp_touches words).dropsKeep
  next => exact (s.enterUp_touches words).dropsKeep
  next => exact (s.mgmtArrival_touches .b words).dropsKeep
  next => exact (s.misdirected_touches .b).dropsKeep

theorem State.judgePacket_dropsKeep (s : State) (side : Side) (words : List Word) : s.DropsKeep (s.judgePacket side words) := by
  have hjudged (c : Receiver) (f : SideCounters → SideCounters) :
      s.DropsKeep ((s.setReceiver side c).updSideCounters side f) :=
    (s.setReceiver_touches side c).dropsKeep.trans (State.updSideCounters_touches _ side f).dropsKeep
  unfold State.judgePacket
  split
  · exact (hjudged _ _).trans (State.latch_dropsKeep _ _ _)
  split
  · exact (hjudged _ _).trans (State.latch_dropsKeep _ _ _)
  · exact (hjudged _ _).trans (State.classify_dropsKeep _ side words _)

/-! ## Loads of a profile and resets -/

/-- A DISABLED drop that an enabled profile makes ACTIVE has nothing on its way. -/
theorem Drop.Lawful.loaded {b : Bool} {x : Drop} (h : x.Lawful b) (hoff : x.line.state = .disabled) {p : Profile}
    (hp : p.enabled = true) (time : Nat) : (x.loaded p time).Lawful b where
  disabledIff := iff_of_false nofun (by rw [show (x.loaded p time).profile.enabled = true from hp]; decide)
  rolling _ := rfl
  stampIn _ := rfl
  slot hfull := absurd (hoff.symm.trans (h.slot hfull).1) nofun
  queue hqueued := absurd hoff (h.queue hqueued).1
  quiet := nofun

theorem State.acceptProfile_dropsKeep (s : State) (d : DropId) (p : Profile) : s.DropsKeep (s.acceptProfile d p) := by
  unfold State.acceptProfile
  split
  next hon => exact State.updCadence_dropsKeep ((s.drop d).line.enabled_iff.mp hon) _
  next hnot =>
    have hoff : (s.drop d).line.state = .disabled := not_not.mp (mt (s.drop d).line.enabled_iff.mpr hnot)
    cases hp : p.enabled with
    | true =>
      rw [State.loadDisabled_of_enabled s d hp]
      have hloaded : s.DropsKeep (s.updDrop d (Drop.loaded p s.clock.time)) :=
        State.updDrop_dropsKeep fun _ hd => hd.loaded hoff hp _
      exact hloaded.trans (State.fill_dropsKeep _ d)
    | false =>
      rw [State.loadDisabled_of_disabled s d hp]
      refine State.updDrop_dropsKeep fun _ hd => ⟨iff_of_true hoff hp, hd.rolling, hd.stampIn, fun hfull => ?_,
        fun hqueued => ?_, hd.quiet⟩
      · exact absurd (hoff.symm.trans (hd.slot hfull).1) nofun
      · exact absurd hoff (hd.queue hqueued).1

theorem ownLoadProfile_dropsKeep (i : Nat) (ws : List Word) (u : State) : u.DropsKeep (ownLoadProfile i ws u).state := by
  unfold ownLoadProfile
  split
  · exact .refl u
  split
  · exact .refl u
  · exact u.acceptProfile_dropsKeep _ _

theorem State.requestAnchor_dropsKeep (s : State) (d : DropId) : s.DropsKeep (s.requestAnchor d) := by
  unfold State.requestAnchor
  split
  next hon => exact State.updCadence_dropsKeep ((s.drop d).line.enabled_iff.mp hon) _
  next => exact .refl s

theorem State.settleState_dropsKeep (s : State) (d : DropId) : s.DropsKeep (s.settleState d) := by
  refine State.updDrop_dropsKeep fun b hd => ?_
  cases hp : (s.drop d).profile.enabled with
  | true =>
    exact hd.activated (fun hoff => Bool.false_ne_true ((hd.disabledIff.mp hoff).symm.trans hp)) rfl rfl rfl rfl
  | false =>
    have hoff : (s.drop d).line.state = .disabled := hd.disabledIff.mpr hp
    refine hd.noMore (.of_line ⟨?_, id, id, id, id, id⟩)
    rw [hoff]
    rfl

theorem Line.emptied_noMore (l : Line) : l.NoMore l.emptied :=
  ⟨rfl, fun h => absurd rfl h, nofun, fun h => absurd rfl h, fun h => absurd rfl h, fun _ => rfl⟩

theorem State.freeIntake_dropsKeep (s : State) (d : DropId) : s.DropsKeep (s.freeIntake d) := by
  have hwithout : s.DropsKeep (s.withoutPacketOf d) := fun e he => by
    have hmem : (s.withoutPacketOf d).atIntake e
        = ((if s.atIntake d then none else s.intake.inProcess).map InProcess.source == some e) := rfl
    rw [hmem]
    split
    · exact he.freed
    · exact he
  rw [State.freeIntake_eq]
  exact hwithout.trans (State.updLine_dropsKeep ⟨rfl, id, id, id, id, id⟩)

theorem State.emptyDrop_dropsKeep (s : State) (d : DropId) : s.DropsKeep (s.emptyDrop d) := by
  have hreset : s.DropsKeep (s.updDrop d (fun x =>
      { x with df := x.df.resetByDrop x.line.enabled, line := x.line.resetByDrop })) :=
    State.updDrop_dropsKeep_of_noMore ⟨rfl, ⟨rfl, fun h => absurd rfl h, nofun, fun h => absurd rfl h, fun h => absurd rfl h,
      fun _ => rfl⟩, id, fun _ => ⟨fun _ => rfl, id, id⟩⟩
  have hlines : s.DropsKeep (s.emptyLines d) := hreset.trans (State.freeIntake_dropsKeep _ d)
  have hdiscards (u : State) (items : List Held) : u.DropsKeep (u.discardItems items) :=
    (u.discardItems_copiesChange items).dropsKeep ((u.discardItems_touches items).intake rfl)
  rw [State.emptyDrop_eq]
  exact (hlines.trans (hdiscards _ _)).trans (State.strip_dropsKeep _ _)

theorem State.dropReset_dropLaw {s : State} (h : s.DropLaw) (d : DropId) : (s.dropReset d).DropLaw := by
  have hclose (u : State) : u.DropsKeep (u.closeAtDropReset d) := (u.closeWithCut_dropsKeep d _ _ _).orSame
  have hanchor (u : State) : u.DropsKeep (u.updCadence d (fun c => { c with pendingAnchor := false })) :=
    State.updDrop_dropsKeep_of_noMore ⟨rfl, .refl _, id, fun _ => ⟨id, id, fun _ => rfl⟩⟩
  have happly {u : State} (hu : u.DropLaw) : (u.applyAtDropReset d).DropLaw := by
    have hdropped := (hanchor u).dropLaw hu
    unfold State.applyAtDropReset
    dsimp only
    split
    next hpending =>
      exact (State.applyProfile_dropsKeep (hdropped.on_of_pending (.inl (by rw [hpending]; nofun))) _).dropLaw hdropped
    next => exact hdropped
  exact (State.settleState_dropsKeep _ d).dropLaw
    (happly (((s.emptyDrop_dropsKeep d).trans (hclose _)).dropLaw h))

theorem State.applyAtTrunkReset_dropLaw {s : State} (h : s.DropLaw) (d : DropId) : (s.applyAtTrunkReset d).DropLaw := by
  unfold State.applyAtTrunkReset
  dsimp only
  refine (State.settleState_dropsKeep _ d).dropLaw ?_
  split
  next p hpending =>
    have hon := h.on_of_pending (d := d) (.inl (by rw [hpending]; nofun))
    refine (State.applyProfile_dropsKeep ?_ p).dropLaw ((s.driveDf_dropsKeep d _).dropLaw h)
    rwa [State.line_driveDf]
  next =>
    split
    next hanchor => exact (State.updCadence_dropsKeep (h.on_of_pending (.inr hanchor)) _).dropLaw h
    next => exact h

theorem State.trunkReset_dropLaw {s : State} (h : s.DropLaw) : s.trunkReset.DropLaw := by
  have hreset : s.DropsKeep s.resetDrops.resetBlocks := fun d hd => by
    rw [State.drop_resetBlocks, State.atIntake_of_free rfl]
    exact hd.freed.noMore ⟨rfl, Line.emptied_noMore _, fun h => absurd h (Take.resetByTrunk_not_rolling _),
      fun _ => ⟨id, id, id⟩⟩
  have hfold (l : List DropId) {u : State} (hu : u.DropLaw) :
      (l.foldl (fun u d => u.applyAtTrunkReset d) u).DropLaw := by
    induction l generalizing u with
    | nil => exact hu
    | cons d l ih => exact ih (State.applyAtTrunkReset_dropLaw hu d)
  exact hfold allDrops (hreset.dropLaw h)

/-! ## Every command -/

theorem State.takeRequest_dropLaw {k : RequestKind} {carry : Request → State → Carried}
    (hcarry : ∀ (r : Request) (u : State), u.DropLaw → (carry r u).state.DropLaw) {s : State} (h : s.DropLaw) :
    (s.takeRequest k carry).DropLaw := by
  rcases s.takeRequest_cases k carry with hnone | ⟨r, rest, htaken⟩
  · rw [hnone]; exact h
  · rw [htaken]
    have hqueue : (s.setMgmt { s.mgmt with queue := rest }).DropLaw := (s.setMgmt_touches _).dropsKeep.dropLaw h
    exact (Carried.answer_touches _ r).dropsKeep.dropLaw (hcarry r _ hqueue)

theorem carryDropControl_dropLaw {act : DropId → State → State} (hact : ∀ d (u : State), u.DropLaw → (act d u).DropLaw)
    (r : Request) (u : State) (h : u.DropLaw) : (carryDropControl act r u).state.DropLaw := by
  unfold carryDropControl
  split
  · exact hact _ u h
  · exact h

theorem carryControl_dropLaw {act : State → State} (hact : ∀ u : State, u.DropLaw → (act u).DropLaw)
    (r : Request) (u : State) (h : u.DropLaw) : (carryControl act r u).state.DropLaw := hact u h

theorem State.trunkResetControl_dropLaw {s : State} (h : s.DropLaw) : s.trunkResetControl.DropLaw := by
  have hreset := State.trunkReset_dropLaw h
  unfold State.trunkResetControl
  generalize s.trunkReset = u at hreset
  exact ((u.enterWaitingTrims_touches .a).dropsKeep.trans (State.enterWaitingTrims_touches _ .b).dropsKeep).dropLaw hreset

theorem State.dropLaw_inPowerOnReset (a : Int) : (State.inPowerOnReset a).DropLaw := by
  intro d
  rw [State.dropLawAt_iff, State.drop_inPowerOnReset, State.atIntake_of_free rfl]
  refine ⟨iff_of_true rfl rfl, nofun, fun hin => ?_, fun hfull => absurd rfl hfull, fun hqueued => absurd rfl hqueued,
    fun _ => ⟨rfl, rfl, rfl, rfl⟩⟩
  rcases hin with hheld | hshift | hfalse
  · exact absurd rfl hheld
  · exact absurd hshift nofun
  · exact absurd hfalse nofun

/-- The law does not speak of the queue of waiting commands. -/
theorem State.DropLaw.withPending {s : State} (h : s.DropLaw) (rest : List Instr) :
    ({ s with pending := rest } : State).DropLaw :=
  fun d => ⟨(h d).disabledIff, (h d).rolling, (h d).stampUnderWay, (h d).slot, (h d).queue, (h d).quiet⟩

theorem effectOf_dropLaw (c : Instr) {s : State} (h : s.DropLaw) : (effectOf c s).DropLaw := by
  have hkeeps {t : State} (hst : s.DropsKeep t) : t.DropLaw := hst.dropLaw h
  cases c with
  | powerOn => exact (State.dropLaw_inPowerOnReset s.trim.value).withPending s.pending
  | epoch =>
    refine hkeeps fun d hd => ?_
    have hdrop : (effectOf .epoch s).drop d = (s.drop d).countStalls := s.drop_epoch d
    have hintake : (effectOf .epoch s).intake = s.intake := s.epoch_touches.intake rfl
    rw [hdrop, State.atIntake_congr hintake]
    exact hd.noMore (.of_line ⟨rfl, id, id, id, id, id⟩)
  | dropBoundaryEvent d =>
    show (if s.boundaryOutstanding d then s.boundaryEvent d else s).DropLaw
    split
    next hdue =>
      rw [State.boundaryOutstanding, Bool.and_eq_true] at hdue
      obtain ⟨hon, -⟩ := hdue
      exact State.boundaryEvent_dropLaw h ((s.drop d).line.enabled_iff.mp hon)
    next => exact h
  | trunkPacketComplete side words => exact hkeeps (s.judgePacket_dropsKeep side words).orSame
  | pulseEnd d => exact hkeeps (s.endPulse_dropsKeep d)
  | dropHeaderMalformed d kind len =>
    have hresync (u : State) : u.DropsKeep (u.updLine d (fun l => { l with shift := .resynchronising, receiveStall := 0 })) :=
      State.updLine_dropsKeep ⟨rfl, id, nofun, id, id, id⟩
    exact hkeeps ((s.countMalformed_dropsKeep d).trans (hresync _)).orSame
  | dropResyncEnd d => exact hkeeps (State.updLine_dropsKeep (Line.clearShift_noMore _)).orSame
  | dropReceiveStall d =>
    exact hkeeps ((s.countMalformed_dropsKeep d).trans (State.updLine_dropsKeep (Line.clearShift_noMore _))).orSame
  | stampPacketComplete d words => exact hkeeps (s.stampPacketComplete_dropsKeep d words)
  | dropActivity d change => exact hkeeps (s.lineActivity_dropsKeep d change)
  | lineArbiterStart d => exact hkeeps (s.lineStart_dropsKeep d)
  | dropTransmitComplete d => exact hkeeps (s.dropTransmitted_dropsKeep d)
  | dropTransmitStall d => exact hkeeps (State.updLine_dropsKeep (Line.abort_noMore true _)).orSame
  | intakeTake => exact hkeeps s.intakeTake_dropsKeep
  | intakeComplete => exact State.intakeComplete_dropLaw h
  | itemStale =>
    exact hkeeps ((s.discardItems_copiesChange s.staleItems).dropsKeep ((s.discardItems_touches s.staleItems).intake rfl))
  | loadProfile =>
    refine State.takeRequest_dropLaw (fun r u hu => ?_) h
    unfold carryLoad
    split
    · exact (ownLoadProfile_dropsKeep _ _ u).dropLaw hu
    · exact hu
  | trunkReset =>
    exact State.takeRequest_dropLaw (carryControl_dropLaw fun _ => State.trunkResetControl_dropLaw) h
  | dropReset =>
    have hact (d : DropId) (u : State) (hu : u.DropLaw) : (u.dropReset d).DropLaw := State.dropReset_dropLaw hu d
    exact State.takeRequest_dropLaw (carryDropControl_dropLaw (act := fun d u => u.dropReset d) hact) h
  | anchor =>
    have hact (d : DropId) (u : State) (hu : u.DropLaw) : (u.requestAnchor d).DropLaw :=
      (u.requestAnchor_dropsKeep d).dropLaw hu
    exact State.takeRequest_dropLaw (carryDropControl_dropLaw (act := fun d u => u.requestAnchor d) hact) h
  | wordClockEdge d k => exact hkeeps ((s.atDivider_touches k).dropsKeep.trans (State.driveDf_dropsKeep _ d k))
  | _ => exact hkeeps (effectOf_touches _ s).dropsKeep

end Sys2Proof.Machine

open Sys2Proof Sys2Proof.Machine

/-- Settles O25: the law of each drop through every command, and a jam or an epoch never sets house time behind a roll. -/
theorem dropLawKept : Obligations.DropLawKept := by
  refine ⟨fun _ _ h => keptByStep (fun _ rest hs => hs.withPending rest) (fun c _ => effectOf_dropLaw c) h,
    fun s t h hb hend hstep => ?_⟩
  unfold step at hstep
  split at hstep
  next => cases hstep; exact h
  next c rest _ =>
    have hbounded : ({ s with pending := rest } : State).TimeBounded :=
      ⟨hb.time, hb.fraction, hb.stepCount, hb.slewPpm, hb.windows, hb.drift, hb.correction, hb.slewing, hb.held, hb.resetting⟩
    rcases exec_cases hstep with rfl | rfl
    · exact h
    · exact effectOf_rolledByNow c (s := { s with pending := rest }) h hbounded hend
end

section
/-! SUPPORT. The drop reset (R177), in the order of its owners: what each part of it leaves, and that the parts before one leave
what it reads of the drop. -/

namespace Sys2Proof.Machine

/- One proof after another: a thread for each would take more memory than a check has. -/
set_option Elab.async false

/-- A line emptied by a drop reset, its counters clear but for the packets flushed from it and from the intake (R101, R108). -/
theorem Line.resetByDrop_countFlushed (atIntake : Bool) (l : Line) :
    l.resetByDrop.countFlushed atIntake =
      { state := l.state, shift := .hunting, receiveStall := 0, holding := none, slot := none, copyQueue := [],
        transmission := none, transmitStall := 0, wait := false, quietTimer := 0, activity := false,
        counters := { DropCounters.cleared with
          flushed := (if l.holding = none then 0 else 1) + (if atIntake then 1 else 0) } } := by
  obtain ⟨state, shift, stall, holding, slot, queue, transmission, tstall, wait, quiet, activity, counters⟩ := l
  cases holding <;> cases atIntake <;> rfl

theorem State.emptyLines_eq (s : State) (d : DropId) :
    s.emptyLines d = (s.withoutPacketOf d).updDrop d (fun x => { x with
      df := x.df.resetByDrop x.line.enabled, line := x.line.resetByDrop.countFlushed (s.atIntake d) }) := by
  have hswap (f : Drop → Drop) : (s.updDrop d f).withoutPacketOf d = (s.withoutPacketOf d).updDrop d f := rfl
  unfold State.emptyLines
  rw [State.freeIntake_eq, hswap, State.updLine, State.updDrop_updDrop]
  rfl

/-- Up to where the take closes, a drop reset leaves of the drop its profile, its cadence unit and its take. -/
structure Drop.SameButLines (x y : Drop) : Prop where
  profile : y.profile = x.profile
  cadence : y.cadence = x.cadence
  take : y.take = x.take

theorem State.emptyDrop_sameButLines (s : State) (d : DropId) : (s.drop d).SameButLines ((s.emptyDrop d).drop d) := by
  have hlines : (s.emptyLines d).drop d = _ := (congrArg (fun u => State.drop u d) (s.emptyLines_eq d)).trans
    (State.drop_updDrop_self (s.withoutPacketOf d) d _)
  have hcopies := (s.emptyLines d).discardItems_copiesChange ((s.emptyLines d).region (dropRegion d)).items d
  have hsets : (s.emptyDrop d).drop d
      = ((s.emptyLines d).discardItems ((s.emptyLines d).region (dropRegion d)).items).drop d := by
    rw [State.emptyDrop_eq]
    exact State.drop_eq_of_drops (State.leaveSets_setsChange _ d).drops d
  rw [hsets]
  exact ⟨by rw [hcopies.profile, hlines]; rfl, by rw [hcopies.cadence, hlines]; rfl, by rw [hcopies.take, hlines]; rfl⟩

theorem State.closeAtDropReset_of_idle {s : State} {d : DropId} (h : (s.drop d).take.state = .idle) :
    s.closeAtDropReset d = s :=
  if_neg (mt (s.rolling_eq_true_iff d).mp ((Take.idle_iff_not_rolling _).mp h))

theorem State.closeAtDropReset_of_rolling {s : State} {d : DropId} (h : (s.drop d).take.state = .rolling) :
    s.closeAtDropReset d = s.closeWithCut d .reset (s.drop d).profile (s.drop d).cadence.anchor :=
  if_pos ((s.rolling_eq_true_iff d).mpr h)

theorem State.cadence_closeAtDropReset (s : State) (d : DropId) :
    ((s.closeAtDropReset d).drop d).cadence = (s.drop d).cadence := by
  unfold State.closeAtDropReset
  split
  · rw [(s.closeWithCut_copiesChange d _ _ _ d).cadence, State.drop_closeTake_self]
  · rfl

theorem State.pendingProfile_anchorDropped (s : State) (d : DropId) :
    ((s.updCadence d (fun c => { c with pendingAnchor := false })).drop d).cadence.pendingProfile
      = (s.drop d).cadence.pendingProfile := by
  rw [State.drop_updCadence, if_pos rfl]

theorem State.applyAtDropReset_of_none {s : State} {d : DropId} (h : (s.drop d).cadence.pendingProfile = none) :
    s.applyAtDropReset d = s.updCadence d (fun c => { c with pendingAnchor := false }) := by
  unfold State.applyAtDropReset
  dsimp only
  rw [State.pendingProfile_anchorDropped, h]

theorem State.applyAtDropReset_of_some {s : State} {d : DropId} {p : Profile}
    (h : (s.drop d).cadence.pendingProfile = some p) :
    s.applyAtDropReset d = (s.updCadence d (fun c => { c with pendingAnchor := false })).applyProfile d p := by
  unfold State.applyAtDropReset
  dsimp only
  rw [State.pendingProfile_anchorDropped, h]

end Sys2Proof.Machine

open Sys2Proof Sys2Proof.Machine

/-- Settles O58: the drop reset is the chain of its five parts, each by the lemma that states it. -/
theorem dropResetEmptiesDrop : Obligations.DropResetEmptiesDrop := by
  unfold Obligations.DropResetEmptiesDrop
  intro s r rest d atIntake hasked hindex hnodup hin
  let v : State := s.asTaken rest
  have hatIntake : v.atIntake d = atIntake := Bool.eq_iff_iff.mpr (beq_iff_eq.trans hin.symm)
  obtain ⟨t, ht, hreplied⟩ := hasked.answers .dropReset (carryDropControl (fun d u => u.dropReset d))
    (carryDropControl_of_index hindex _ _)
  obtain ⟨-, hcadence, htake⟩ := v.emptyDrop_sameButLines d
  have hprofile := (v.emptyDrop_sameButLines d).profile
  have hpending : (((v.emptyDrop d).closeAtDropReset d).drop d).cadence.pendingProfile = (s.drop d).cadence.pendingProfile := by
    rw [State.cadence_closeAtDropReset, hcadence]
    rfl
  refine ⟨v.emptyLines d, (v.emptyLines d).discardItems ((v.emptyLines d).region (dropRegion d)).items, v.emptyDrop d,
    (v.emptyDrop d).closeAtDropReset d, ((v.emptyDrop d).closeAtDropReset d).applyAtDropReset d, v.dropReset d, t, ht, hreplied,
    ?lines, ?discards, ?sets, fun hidle => ?idle, fun hrolling => ?rolling, fun hnone => ?anchor, fun p hsome => ?profile, rfl⟩
  case lines =>
    rw [State.emptyLines_eq, hatIntake, State.withoutPacketOf, hatIntake]
    refine State.updDrop_congr _ d ?_
    have hline := Line.resetByDrop_countFlushed atIntake (s.drop d).line
    exact congrArg
      (fun l => ({ s.drop d with df := (s.drop d).df.resetByDrop (s.drop d).line.enabled, line := l } : Drop)) hline
  case discards =>
    have hitems : ((v.emptyLines d).region (dropRegion d)).items = (s.region (dropRegion d)).items := by
      rw [State.emptyLines_eq]
      rfl
    rw [← hitems]
    refine State.discardItems_discards (fun i => ?_) _
    rw [State.emptyLines_eq]
    exact (s.heldSerials_nodup_iff.mp hnodup).1 i
  case sets =>
    rw [State.emptyDrop_eq]
    exact State.leaveSets_setsChange _ d
  case idle => exact State.closeAtDropReset_of_idle (by rw [htake]; exact hidle)
  case rolling =>
    rw [State.closeAtDropReset_of_rolling (by rw [htake]; exact hrolling), hprofile, hcadence]
    exact State.closeWithCut_closes _ d _ _ _
  case anchor =>
    rw [State.applyAtDropReset_of_none (hpending.trans hnone)]
    rfl
  case profile =>
    rw [State.applyAtDropReset_of_some (hpending.trans hsome)]
    exact State.applyProfile_applies _ d p
end

section
/-! SUPPORT. The trunk reset (R176): with every region emptied and every take closed, the apply of what is pending reaches of
each drop only the drop itself; and the STORE_TRIM replies that wait enter the emptied queues (R154). -/

namespace Sys2Proof.Machine

/- One proof after another: a thread for each would take more memory than a check has. -/
set_option Elab.async false

/-! ## STORE_TRIM replies that enter an emptied queue (R154) -/

/-- The reply queue of a side, with replies at its tail. -/
def Trunk.withReplies (t : Trunk) (side : Side) (ws : List (List Word)) : Trunk :=
  match side with
  | .a => { t with sideA := { t.sideA with replies := t.sideA.replies ++ ws } }
  | .b => { t with sideB := { t.sideB with replies := t.sideB.replies ++ ws } }

theorem Trunk.withReplies_nil (t : Trunk) (side : Side) : t.withReplies side [] = t := by
  cases side <;> simp [Trunk.withReplies]

theorem Trunk.withReply_withReplies (t : Trunk) (side : Side) (w : List Word) (ws : List (List Word)) :
    (t.withReply side w).withReplies side ws = t.withReplies side (w :: ws) := by
  cases side <;> simp [Trunk.withReply, Trunk.withReplies]

/-- The replies of the other side. -/
def otherTrims (side : Side) (rs : List Reply) : List Reply := rs.filter (fun r => r.side != side)

theorem State.trimReplyEntry_of_none {s : State} {side : Side} (h : s.waitingTrims side = []) : s.trimReplyEntry side = s := by
  have hnone : s.mgmt.trimReplies.find? (fun r => r.side == side) = none :=
    List.find?_eq_none.mpr (List.filter_eq_nil_iff.mp h)
  unfold State.trimReplyEntry
  rw [hnone]

/-- Enough entries let in every reply that waits for a side, where its queue has room for them. -/
theorem State.trimReplyEntry_iterate (side : Side) (ws : List Reply) (n : Nat) (hn : ws.length ≤ n) (s : State)
    (hw : s.waitingTrims side = ws) (hroom : (s.port side).replies.length + ws.length ≤ 4) :
    (fun u : State => u.trimReplyEntry side)^[n] s =
      { s with
        mgmt := { s.mgmt with trimReplies := otherTrims side s.mgmt.trimReplies },
        trunk := s.trunk.withReplies side (ws.map Reply.words) } := by
  induction n generalizing ws s with
  | zero =>
    obtain rfl := List.length_eq_zero_iff.mp (Nat.le_zero.mp hn)
    have hothers : otherTrims side s.mgmt.trimReplies = s.mgmt.trimReplies :=
      List.filter_eq_self.mpr fun r hr => by simpa using List.filter_eq_nil_iff.mp hw r hr
    rw [hothers, List.map_nil, Trunk.withReplies_nil]
    rfl
  | succ n ih =>
    cases ws with
    | nil =>
      rw [Function.iterate_succ_apply, State.trimReplyEntry_of_none hw]
      exact ih [] (Nat.zero_le n) s hw hroom
    | cons r ws =>
      obtain ⟨before, after, hlist, hbefore, hr, hafter⟩ := List.filter_eq_cons_iff.mp hw
      obtain rfl : r.side = side := eq_of_beq hr
      rw [List.length_cons] at hn hroom
      have hentry := State.trimReplyEntry_of_room hlist (fun x hx => by simpa using hbefore x hx) (by omega)
      rw [Function.iterate_succ_apply, hentry]
      have hother : before.filter (fun x => x.side == r.side) = [] := List.filter_eq_nil_iff.mpr hbefore
      rw [ih ws (by omega) _ ?waits ?room]
      case waits =>
        have hfilter : (before ++ after).filter (fun x => x.side == r.side) = ws := by
          rw [List.filter_append, hother, hafter, List.nil_append]
        exact hfilter
      case room =>
        have hlength : (({ s with
            mgmt := { s.mgmt with trimReplies := before ++ after },
            trunk := s.trunk.withReply r.side r.words } : State).port r.side).replies.length
              = (s.port r.side).replies.length + 1 := by
          unfold State.port Trunk.withReply Trunk.port
          cases r.side <;> simp
        omega
      have hlists : otherTrims r.side (before ++ after) = otherTrims r.side s.mgmt.trimReplies := by
        unfold otherTrims
        rw [hlist, List.filter_append, List.filter_append, List.filter_cons_of_neg (by simp)]
      dsimp only
      rw [hlists, Trunk.withReply_withReplies, List.map_cons]

theorem State.enterWaitingTrims_eq {s : State} {side : Side} (hempty : (s.port side).replies = [])
    (hfew : (s.waitingTrims side).length ≤ 4) :
    s.enterWaitingTrims side =
      { s with
        mgmt := { s.mgmt with trimReplies := otherTrims side s.mgmt.trimReplies },
        trunk := s.trunk.withReplies side ((s.waitingTrims side).map Reply.words) } :=
  State.trimReplyEntry_iterate side _ 4 hfew s rfl (by rw [hempty, List.length_nil, Nat.zero_add]; exact hfew)

/-! ## An apply with nothing held and no take that rolls -/

/-- Every region is as a trunk reset leaves it, and the intake is free. -/
structure State.Emptied (s : State) : Prop where
  region : ∀ i, (s.region i).resetByTrunk = s.region i
  intake : s.intake.inProcess = none

theorem State.Emptied.heldItems {s : State} (h : s.Emptied) : s.heldItems = [] := by
  refine List.flatMap_eq_nil_iff.mpr fun r hr => ?_
  obtain ⟨i, hi, rfl⟩ := Vector.getElem_of_mem (Vector.mem_toList_iff.mp hr)
  have hregion : (s.region ⟨i, hi⟩).items = [] := by rw [← h.region]; rfl
  exact hregion

theorem State.Emptied.updDrop {s : State} (h : s.Emptied) (d : DropId) (f : Drop → Drop) : (s.updDrop d f).Emptied :=
  ⟨h.region, h.intake⟩

theorem State.Emptied.fill {s : State} (h : s.Emptied) (d : DropId) : s.fill d = s := by
  have hone : s.fillOne d = s := by
    have hnext : s.nextCopy d = none := by
      unfold State.nextCopy State.oldest
      rw [h.heldItems]
      rfl
    unfold State.fillOne
    rw [hnext]
    exact ite_self _
  unfold State.fill
  rw [hone, hone, hone, hone]

theorem State.Emptied.strip {s : State} (h : s.Emptied) (f : Held → Held) : s.strip f = s := by
  have hregion (i : RegionId) : Region.strip f (s.region i) = s.region i := by
    rw [← h.region i]
    rfl
  have hregions : vmap (Region.strip f) s.store.regions = s.store.regions := by
    refine Vector.ext fun i hi => ?_
    rw [vmap_get]
    exact hregion ⟨i, hi⟩
  exact congrArg (fun rs => ({ s with store := { s.store with regions := rs } } : State)) hregions

theorem Line.applied_emptied (old p : Profile) (l : Line) : l.emptied.applied old p = l.emptied := by
  obtain ⟨changed, -, hline⟩ := Line.applied_takes old p l.emptied
  rw [hline]
  simp [Line.emptied]

/-- What is pending at a drop applies at a trunk reset (R62, R102), the DF line being at `level` then. -/
def Drop.appliedAtTrunkReset (time : Nat) (level : Bool) (x : Drop) : Drop :=
  match x.cadence.pendingProfile with
  | some p =>
    let y : Drop := { x with
      profile := p, cadence := { x.cadence with pendingProfile := none }, df := { x.df with level := level } }
    if p.enabled then y.goesOn x.profile p time else y.ends false
  | none => if x.cadence.pendingAnchor then { x with cadence := x.cadence.anchoredAt x.profile time } else x

/-- The drop state follows the profile in force (R102). -/
def Drop.settled (x : Drop) : Drop :=
  { x with line := { x.line with state := if x.profile.enabled then .active else .disabled } }

theorem State.settleEnabled_of_emptied {s : State} (h : s.Emptied) (d : DropId) {p : Profile} (old : Profile)
    (hp : (s.drop d).profile = p) : s.settleEnabled d old p = s.updDrop d (Drop.goesOn old p s.clock.time) := by
  let lined : State := (s.updCadence d (fun c => c.anchoredAt p s.clock.time)).updLine d (Line.applied old p)
  have hlined : lined.Emptied := (h.updDrop d _).updDrop d _
  have hsets : (if old.role == .edit && p.role != .edit then lined.leaveUnqueuedSets d else lined) = lined := by
    unfold State.leaveUnqueuedSets
    dsimp only
    rw [hlined.strip, ite_self]
  have hprofile : (lined.drop d).profile = p := by
    unfold lined
    rw [State.drop_updLine, if_pos rfl, State.drop_updCadence, if_pos rfl]
    exact hp
  have hmodel : s.settleEnabled d old p = (lined.applyDf d old.dfFunction).fill d :=
    congrArg (fun u => (State.applyDf u d old.dfFunction).fill d) hsets
  have hdf : (lined.updDf d (DfLine.applied old.dfFunction p.dfFunction)).Emptied := hlined.updDrop d _
  rw [hmodel, State.applyDf, hprofile, hdf.fill]
  unfold lined
  rw [State.updLine, State.updCadence, State.updDf, State.updDrop_updDrop, State.updDrop_updDrop]
  rfl

theorem State.settleDisabled_of_emptied {s : State} (h : s.Emptied) (d : DropId) :
    s.settleDisabled d = s.updDrop d (Drop.ends false) := by
  let ended : State := (s.updLine d Line.disabled).updDf d (fun x => { x.lowered with waitsForBoundary := false })
  have hended : ended.Emptied := (h.updDrop d _).updDrop d _
  have hfree : ended.freeIntake d = ended := by
    unfold State.freeIntake
    rw [hended.intake]
  have hmodel : s.settleDisabled d = ended.updCadence d (fun c => { c with pendingAnchor := false }) := by
    have hdisable : s.disableDrop d = (ended.freeIntake d).leaveSets d := rfl
    unfold State.settleDisabled
    rw [hdisable, hfree, State.leaveSets, hended.strip]
  rw [hmodel]
  unfold ended
  rw [State.updLine, State.updDf, State.updCadence, State.updDrop_updDrop, State.updDrop_updDrop]
  rfl

theorem State.applyAtTrunkReset_eq {s : State} (h : s.Emptied) {d : DropId} (hidle : (s.drop d).take.state ≠ .rolling) :
    s.applyAtTrunkReset d =
      s.updDrop d (fun x => (x.appliedAtTrunkReset s.clock.time (s.dfLevel d s.resetInstant)).settled) := by
  have hsettle (f : Drop → Drop) (u : State) (hu : u = s.updDrop d f) :
      u.settleState d = s.updDrop d (fun x => (f x).settled) := by
    rw [hu]
    exact s.updDrop_updDrop d f _
  unfold State.applyAtTrunkReset
  dsimp only
  refine hsettle (Drop.appliedAtTrunkReset s.clock.time (s.dfLevel d s.resetInstant)) _ ?_
  cases hpending : (s.drop d).cadence.pendingProfile with
  | some p =>
    dsimp only
    let v : State := s.driveDf d s.resetInstant
    have hv : v.drop d = { s.drop d with df := { (s.drop d).df with level := s.dfLevel d s.resetInstant } } := by
      unfold v
      rw [State.drop_driveDf, if_pos rfl]
    have hrolling : (v.rolling d && guardedChange (v.drop d).profile p) = false := by
      have hnot : v.rolling d = false := Bool.eq_false_of_not_eq_true fun hr => by
        rw [State.rolling_eq_true_iff, hv] at hr
        exact hidle hr
      rw [hnot]
      rfl
    have hadopt : v.adoptProfile d p = v.withProfile d p := by
      rw [State.adoptProfile_eq, hrolling]
      exact if_neg Bool.false_ne_true
    have hdriven : v.Emptied := ⟨h.region, h.intake⟩
    have hemptied : (v.withProfile d p).Emptied := hdriven.updDrop d _
    have hprofile : ((v.withProfile d p).drop d).profile = p := by rw [State.drop_withProfile]
    have hold : (v.drop d).profile = (s.drop d).profile := by rw [hv]
    have hmodel : v.applyProfile d p = if p.enabled then
        (v.withProfile d p).updDrop d (Drop.goesOn (s.drop d).profile p s.clock.time)
        else (v.withProfile d p).updDrop d (Drop.ends false) := by
      unfold State.applyProfile
      dsimp only
      rw [hadopt, hold, State.settleEnabled_of_emptied hemptied d _ hprofile, State.settleDisabled_of_emptied hemptied]
      rfl
    rw [hmodel]
    unfold v State.withProfile State.driveDf State.updDf
    split
    next hp =>
      rw [State.updDrop_updDrop, State.updDrop_updDrop]
      refine s.updDrop_congr d ?_
      unfold Drop.appliedAtTrunkReset
      rw [hpending]
      exact (if_pos hp).symm
    next hp =>
      rw [State.updDrop_updDrop, State.updDrop_updDrop]
      refine s.updDrop_congr d ?_
      unfold Drop.appliedAtTrunkReset
      rw [hpending]
      exact (if_neg hp).symm
  | none =>
    dsimp only
    split
    next hanchor =>
      unfold State.applyAnchor State.updCadence
      refine s.updDrop_congr d ?_
      unfold Drop.appliedAtTrunkReset
      rw [hpending]
      exact (if_pos hanchor).symm
    next hanchor =>
      refine (s.updDrop_same d _ ?_).symm
      unfold Drop.appliedAtTrunkReset
      rw [hpending]
      exact if_neg hanchor

/-- The drops apply what is pending one after another, each by itself. -/
theorem State.foldl_applyAtTrunkReset (l : List DropId) (hnodup : l.Nodup) (s : State) (h : s.Emptied)
    (hidle : ∀ d ∈ l, (s.drop d).take.state ≠ .rolling) :
    ∃ t, l.foldl (fun u d => u.applyAtTrunkReset d) s = t ∧ t = { s with drops := t.drops }
      ∧ ∀ d, t.drop d = if d ∈ l then ((s.drop d).appliedAtTrunkReset s.clock.time (s.dfLevel d s.resetInstant)).settled
          else s.drop d := by
  induction l generalizing s with
  | nil => exact ⟨s, rfl, rfl, fun d => (if_neg (by simp)).symm⟩
  | cons x l ih =>
    obtain ⟨hx, hnodup⟩ := List.nodup_cons.mp hnodup
    let u : State := s.updDrop x (fun y => (y.appliedAtTrunkReset s.clock.time (s.dfLevel x s.resetInstant)).settled)
    have hu : s.applyAtTrunkReset x = u := State.applyAtTrunkReset_eq h (hidle x List.mem_cons_self)
    have hsame {d : DropId} (hd : d ∈ l) : u.drop d = s.drop d :=
      State.drop_updDrop_ne s _ fun hdx => hx (hdx ▸ hd)
    obtain ⟨t, ht, hframe, hdrops⟩ := ih hnodup u (h.updDrop x _) fun d hd => by
      rw [hsame hd]
      exact hidle d (List.mem_cons_of_mem x hd)
    refine ⟨t, ?_, hframe, fun d => ?_⟩
    · rw [List.foldl_cons, hu]
      exact ht
    rw [hdrops d]
    by_cases hd : d ∈ l
    · have hlevel : u.dfLevel d u.resetInstant = s.dfLevel d s.resetInstant := by
        unfold State.dfLevel
        rw [hsame hd]
        rfl
      rw [if_pos hd, if_pos (List.mem_cons_of_mem x hd), hlevel, hsame hd]
      rfl
    · rw [if_neg hd]
      by_cases hdx : d = x
      · subst hdx
        rw [if_pos List.mem_cons_self]
        exact State.drop_updDrop_self s d _
      · rw [if_neg (by simp [hdx, hd])]
        exact State.drop_updDrop_ne s _ hdx

/-! ## The blocks after a trunk reset (R176) -/

/-- The blocks but for drops and regions as a trunk reset leaves them, before replies that wait enter their queues. -/
def State.resetTo (s : State) (drops : Vector Drop 8) (regions : Vector Region 9) : State :=
  { s with
    clock := { s.clock with correction := s.tracker.drift }, house := { s.house with pendingRate := none },
    tracker := { Tracker.atPowerOn with drift := s.tracker.drift }, drops := drops,
    intake := { lastServed := 7, inProcess := none }, labels := { s.labels with sceneIndex := 0 },
    store := { s.store with regions := regions, passUnassigned := 0 }, trunk := s.trunk.resetByTrunk,
    reports := ReportUnit.atPowerOn, mgmt := { s.mgmt with queue := [], discards := 0 } }

theorem State.resetBlocks_eq (s : State) :
    s.resetDrops.resetBlocks = s.resetTo (vmap Drop.resetByTrunk s.drops) (vmap Region.resetByTrunk s.store.regions) := by
  have hidle : ¬ ∃ d, ((s.updAllDrops Drop.resetByTrunk).drop d).take.state = .rolling := fun ⟨d, hd⟩ => by
    rw [State.drop_updAllDrops] at hd
    exact Take.resetByTrunk_not_rolling _ hd
  have hdrops : s.resetDrops = { s.updAllDrops Drop.resetByTrunk with tracker := { s.tracker with guardFlag := false } } :=
    State.announceGuard_eq _ (iff_of_false Bool.false_ne_true hidle)
  rw [hdrops]
  rfl

/-- The state after a trunk reset, its drops by what was pending at them. -/
theorem State.trunkReset_resetTo (s : State) :
    ∃ drops, s.trunkReset = s.resetTo drops (vmap Region.resetByTrunk s.store.regions)
      ∧ ∀ d : DropId, drops[d.val] =
          ((s.drop d).resetByTrunk.appliedAtTrunkReset s.clock.time (s.dfLevel d s.resetInstant)).settled := by
  have hdrop (d : DropId) := s.drop_resetBlocks d
  have hemptied : s.resetDrops.resetBlocks.Emptied := by
    rw [s.resetBlocks_eq]
    refine ⟨fun i => ?_, rfl⟩
    have hregion : (s.resetTo (vmap Drop.resetByTrunk s.drops) (vmap Region.resetByTrunk s.store.regions)).region i
        = (s.region i).resetByTrunk := vmap_get _ _ _ i.isLt
    rw [hregion]
    rfl
  obtain ⟨t, ht, hframe, hdrops⟩ := State.foldl_applyAtTrunkReset allDrops (by decide) _ hemptied fun d _ => by
    rw [hdrop]
    exact Take.resetByTrunk_not_rolling _
  have hlevel (d : DropId) : s.resetDrops.resetBlocks.dfLevel d s.resetDrops.resetBlocks.resetInstant
      = s.dfLevel d s.resetInstant := by
    unfold State.dfLevel Drop.followsWord
    rw [hdrop, s.resetBlocks_eq]
    rfl
  have htime : s.resetDrops.resetBlocks.clock.time = s.clock.time := by rw [s.resetBlocks_eq]; rfl
  refine ⟨t.drops, ?_, fun d => ?_⟩
  · unfold State.trunkReset
    rw [ht, hframe, s.resetBlocks_eq]
    rfl
  · have hd := hdrops d
    rw [if_pos (mem_allDrops d), hdrop, hlevel, htime] at hd
    exact hd

/-! ## A drop after a trunk reset (R62, R102) -/

theorem Take.resetByTrunk_eq (t : Take) :
    t.resetByTrunk = if t.state = .rolling then { t with state := .idle, lastClose := .reset } else t :=
  if_congr beq_iff_eq rfl rfl

/-- What of a drop at a trunk reset does not depend on what applies. -/
theorem Drop.appliedAtTrunkReset_kept (time : Nat) (level : Bool) (x : Drop) :
    (x.resetByTrunk.appliedAtTrunkReset time level).take = x.take.resetByTrunk
    ∧ (∃ state, (x.resetByTrunk.appliedAtTrunkReset time level).line = { x.line.emptied with state := state })
    ∧ (x.resetByTrunk.appliedAtTrunkReset time level).profile = x.cadence.pendingProfile.getD x.profile := by
  unfold Drop.appliedAtTrunkReset Drop.resetByTrunk
  dsimp only
  cases x.cadence.pendingProfile with
  | some p =>
    dsimp only
    split
    · exact ⟨rfl, ⟨x.line.state, Line.applied_emptied _ _ _⟩, rfl⟩
    · exact ⟨rfl, ⟨.disabled, rfl⟩, rfl⟩
  | none =>
    dsimp only
    split
    · exact ⟨rfl, ⟨x.line.state, rfl⟩, rfl⟩
    · exact ⟨rfl, ⟨x.line.state, rfl⟩, rfl⟩

theorem Drop.appliedAtTrunkReset_of_none {x : Drop} (h : x.cadence.pendingProfile = none) (time : Nat) (level : Bool) :
    x.appliedAtTrunkReset time level =
      if x.cadence.pendingAnchor then { x with cadence := x.cadence.anchoredAt x.profile time } else x := by
  unfold Drop.appliedAtTrunkReset
  rw [h]

theorem Drop.appliedAtTrunkReset_of_some {x : Drop} {p : Profile} (h : x.cadence.pendingProfile = some p) (time : Nat)
    (level : Bool) :
    x.appliedAtTrunkReset time level =
      if p.enabled then
        ({ x with
          profile := p, cadence := { x.cadence with pendingProfile := none },
          df := { x.df with level := level } } : Drop).goesOn x.profile p time
      else
        ({ x with
          profile := p, cadence := { x.cadence with pendingProfile := none },
          df := { x.df with level := level } } : Drop).ends false := by
  unfold Drop.appliedAtTrunkReset
  rw [h]

end Sys2Proof.Machine

open Sys2Proof Sys2Proof.Machine

/-- Settles O57: the blocks, the drops one by one, and the replies that enter the emptied queues. -/
theorem trunkResetReachesBlocks : Obligations.TrunkResetReachesBlocks := by
  unfold Obligations.TrunkResetReachesBlocks
  intro s r rest hasked hfew
  let v : State := s.asTaken rest
  obtain ⟨drops, hreset, hdrops⟩ := v.trunkReset_resetTo
  let regions : Vector Region 9 := vmap Region.resetByTrunk s.store.regions
  have hreset : v.trunkReset = v.resetTo drops regions := hreset
  let u : State := { s.resetTo drops regions with
    trunk := (s.trunk.resetByTrunk.withReplies .a ((s.waitingTrims .a).map Reply.words)).withReplies .b
      ((s.waitingTrims .b).map Reply.words),
    mgmt := { s.mgmt with queue := [], trimReplies := [], discards := 0 } }
  have hcontrol : v.trunkResetControl = u := by
    let w : State := { v.resetTo drops regions with
      mgmt := { s.mgmt with queue := [], trimReplies := otherTrims .a s.mgmt.trimReplies, discards := 0 },
      trunk := s.trunk.resetByTrunk.withReplies .a ((s.waitingTrims .a).map Reply.words) }
    have ha : (v.resetTo drops regions).enterWaitingTrims .a = w := State.enterWaitingTrims_eq rfl (hfew .a)
    have hwaits : w.waitingTrims .b = s.waitingTrims .b := by
      refine (List.filter_filter ..).trans (List.filter_congr fun x _ => ?_)
      cases x.side <;> rfl
    have hnone : otherTrims .b (otherTrims .a s.mgmt.trimReplies) = [] := by
      refine (List.filter_filter ..).trans (List.filter_eq_nil_iff.mpr fun x _ => ?_)
      cases x.side <;> decide
    have hb := State.enterWaitingTrims_eq (s := w) (side := .b) rfl (by rw [hwaits]; exact hfew .b)
    unfold State.trunkResetControl
    rw [hreset, ha, hb, hwaits]
    unfold w u
    dsimp only
    rw [hnone]
    rfl
  obtain ⟨t, ht, hreplied⟩ := hasked.answers .trunkReset (carryControl State.trunkResetControl) (congrArg carriedOut hcontrol)
  refine ⟨u, t, ht, hreplied, rfl, fun i => vmap_get _ _ _ i.isLt, ?_⟩
  rintro d c rfl
  have hdrop : u.drop d
      = ((s.drop d).resetByTrunk.appliedAtTrunkReset s.clock.time (s.dfLevel d (Config.resetInstant s.clock.time))).settled :=
    hdrops d
  obtain ⟨htake, ⟨state, hline⟩, hprofile⟩ :=
    Drop.appliedAtTrunkReset_kept s.clock.time (s.dfLevel d (Config.resetInstant s.clock.time)) (s.drop d)
  rw [hdrop]
  refine ⟨htake.trans (Take.resetByTrunk_eq _), ?line, hprofile, fun hnone => ⟨?df, fun hno => ?stays, fun hyes => ?anchor⟩,
    fun p hsome => ⟨fun hon => ?goesOn, fun hoff => ?ends⟩⟩
  case line =>
    unfold Drop.settled
    dsimp only
    rw [hline]
    rfl
  case df =>
    rw [Drop.appliedAtTrunkReset_of_none (x := (s.drop d).resetByTrunk) hnone]
    split <;> rfl
  case stays =>
    rw [Drop.appliedAtTrunkReset_of_none (x := (s.drop d).resetByTrunk) hnone, if_neg]
    · rfl
    · exact fun hyes => Bool.false_ne_true (hno.symm.trans hyes)
  case anchor =>
    rw [Drop.appliedAtTrunkReset_of_none (x := (s.drop d).resetByTrunk) hnone]
    have hanchor : (s.drop d).resetByTrunk.cadence.pendingAnchor = true := hyes
    rw [if_pos hanchor]
    exact Cadence.anchoredAt_spec _ _ _
  case goesOn =>
    rw [Drop.appliedAtTrunkReset_of_some (x := (s.drop d).resetByTrunk) hsome, if_pos hon]
    exact ⟨Cadence.anchoredAt_spec _ _ _, DfLine.applied_takes _ _ _⟩
  case ends =>
    rw [Drop.appliedAtTrunkReset_of_some (x := (s.drop d).resetByTrunk) hsome, if_neg (by rw [hoff]; decide)]
    exact ⟨rfl, rfl⟩
end

section
/-! SUPPORT. A step and power-on (R193): the state after reset block by block, its laws, and the two events that take a part
through power-on reset. -/

namespace Sys2Proof.Machine

/- One proof after another: a thread for each would take more memory than a check has. -/
set_option Elab.async false

theorem State.reset_drop (d : DropId) : State.reset.drop d = Drop.atPowerOn := Vector.getElem_replicate d.isLt

theorem State.reset_region (i : RegionId) :
    State.reset.region i = if i = passRegion then Region.passAtPowerOn else Region.unassignedAtPowerOn := by
  revert i
  decide

theorem State.reset_latchOf (c : Cause) : State.reset.latchOf c = Latch.clear := Vector.getElem_replicate c.index.isLt

theorem State.reset_entry {i : Nat} (h : i < 64) : State.reset.labels.entry i = Vector.replicate 8 0#4 := by
  have hbits : State.reset.labels.userBits.toList = List.replicate 64 (Vector.replicate 8 0#4) := by
    have huser : State.reset.labels.userBits = Vector.replicate 64 (Vector.replicate 8 0#4) := rfl
    rw [huser, Vector.toList_replicate]
  unfold LabelUnit.entry
  rw [hbits, List.getD_replicate _ h]

/-- POWER_ON's drops hold DX high, drive neither DK nor a pulse. -/
theorem Drop.atPowerOn_lines :
    Drop.atPowerOn.dx = .high ∧ Drop.atPowerOn.dk = .notDriven ∧ Drop.atPowerOn.df.level = false := ⟨rfl, rfl, rfl⟩

end Sys2Proof.Machine

open Sys2Proof Sys2Proof.Machine

/-- Settles O1: both clauses are the two branches of `step`. -/
theorem stepTakesFrontCommand : Obligations.StepTakesFrontCommand := by
  unfold Obligations.StepTakesFrontCommand
  refine ⟨fun c rest s => rfl, fun s hempty => ?_⟩
  unfold step
  rw [hempty]

/-- Settles O2: the tables are read one entry at a time, every other block is given by its definition. -/
theorem resetStateAsGiven : Obligations.ResetStateAsGiven := by
  unfold Obligations.ResetStateAsGiven
  refine ⟨rfl, rfl, rfl, rfl, rfl, rfl, rfl, fun d => ?drops, rfl, rfl, fun i hi => State.reset_entry hi, fun i hi => ?region,
    ?pass, rfl, rfl, rfl, fun side => ?port, rfl, rfl, rfl, rfl, rfl, rfl, rfl, rfl, rfl, fun i => ?route, rfl, rfl,
    fun c => State.reset_latchOf c⟩
  case drops =>
    rw [State.reset_drop]
    exact ⟨rfl, rfl, rfl, rfl, rfl⟩
  case region => rw [State.reset_region, if_neg hi]; rfl
  case pass => rw [State.reset_region, if_pos rfl]; rfl
  case port => cases side <;> rfl
  case route => exact State.route_inPowerOnReset 0 i

/-- Settles O3: the laws that the power-on values meet do not speak of the end of power-on reset. -/
theorem lawsHoldAtReset : Obligations.LawsHoldAtReset := by
  have hbounded := State.timeBounded_inPowerOnReset
  have hlawful := State.lawful_inPowerOnReset 0
  refine ⟨?bounded, hlawful.guard, fun d => ?drops, hlawful.rolled, ?places, State.reset_regionsFit, hlawful.conserved, ?routes,
    ?delivery⟩
  case bounded =>
    exact ⟨hbounded.time, hbounded.fraction, hbounded.stepCount, hbounded.slewPpm, hbounded.windows, hbounded.drift,
      hbounded.correction, hbounded.slewing, hbounded.held, nofun⟩
  case drops =>
    obtain ⟨hdisabled, hrolling, hstamp, hslot, hqueue, hquiet⟩ := State.dropLaw_inPowerOnReset 0 d
    exact ⟨hdisabled, hrolling, hstamp, hslot, hqueue, hquiet⟩
  case places =>
    obtain ⟨hmgmt, ha, hb, hup, hdown, hcopies⟩ := hlawful.places
    exact ⟨hmgmt, ha, hb, hup, hdown, hcopies⟩
  case routes => exact ⟨hlawful.routes.apart, hlawful.routes.stations⟩
  case delivery =>
    obtain ⟨hcounter, hdistinct, hfresh, howed, hordered, honce, hqueued⟩ := hlawful.delivery
    exact ⟨hcounter, hdistinct, hfresh, howed, hordered, honce, hqueued⟩

/-- Settles O4: POWER_ON is the power-on state with the trim value and the waiting commands kept. -/
theorem powerOnKeepsOnlyTrim : Obligations.PowerOnKeepsOnlyTrim := by
  unfold Obligations.PowerOnKeepsOnlyTrim
  intro s
  refine ⟨s.powerOn, rfl, rfl, rfl, rfl, rfl, rfl, fun side => rfl, fun d => ?_, rfl⟩
  have hdrop : s.powerOn.drop d = Drop.atPowerOn := State.drop_inPowerOnReset s.trim.value d
  rw [hdrop]
  exact Drop.atPowerOn_lines

/-- Settles O5: the end of the reset, where it lasts. -/
theorem powerOnResetEndLoadsTrim : Obligations.PowerOnResetEndLoadsTrim := by
  unfold Obligations.PowerOnResetEndLoadsTrim
  intro s stn hreset
  have hexec : exec (.powerOnResetEnd stn) s = .next (if s.inReset then s.endPowerOnReset stn else s) := rfl
  rw [hexec, if_pos hreset]
  rfl
end
